-- ==== Sys2Proof/Word.lean ====
section
/-! DEFINITION. The word types of the core (spec 00_scope.md R10, R12): bytes, the packet port, the request word. -/

namespace Sys2Proof

/-- A byte of the transport, of a packet or of a command (R10). -/
abbrev Byte := BitVec 8

/-- A 16-bit value: a bit-reversal operand, a decoded reading, a counter (R10, R20). -/
abbrev Half := BitVec 16

/-- The 32-bit request word `req` (R91). -/
abbrev ReqWord := BitVec 32

/-- The 24-bit packet port `pkt` (R66). -/
abbrev Packet := BitVec 24

end Sys2Proof
end

