-- ==== Sys2Proof/Config.lean ====
section
/-! DEFINITION. What an instance of the core fixes (spec 00_scope.md R9), the inputs of one step (10_state.md R21,
R38), and the free values: what the spec leaves OPEN has no body here. -/

namespace Sys2Proof

/-- The elaboration-time parameters of one instance (R9). No step writes them. -/
structure Params where
  /-- `HS_MAX`: the greatest number of received bytes one AUTOBAUD evaluates. -/
  hsMax : BitVec 16
  /-- `ECHO_MAX`: the greatest number of times one SENDCMD transmits. -/
  echoMax : BitVec 16
  /-- `POLL_MAX`: the bound on one wait; 0 means no bound. -/
  pollMax : BitVec 16
  /-- `CAL_AFTER_FINAL`: one more calibration byte after the second consecutive confirmation. -/
  calAfterFinal : Bool
  /-- `OS_EXCLUDE_BY_VALUE`: DECODEOS leaves a sample out by its value, not by its failure. -/
  osExcludeByValue : Bool
  deriving DecidableEq, Repr

/-- The ranges R9 gives: `HS_MAX` and `ECHO_MAX` are at least 1 (their upper bound is their width). -/
abbrev Params.wf (p : Params) : Prop := p.hsMax ≠ 0 ∧ p.echoMax ≠ 0

/-- The input ports of the core in one step (R21, R38), with the two things the other agents do to the streams in
that step: the bytes the device's side appends to `RX` (R62) and the host's own use of the transport (R77, R80).
`receive_ready` and `read_data` are not here: they are functions of `RX` (R63 (a)). -/
structure Input where
  /-- `rst`: synchronous reset, active at 1 (R240). -/
  rst : Bool
  /-- `op_start` (R92). -/
  opStart : Bool
  /-- `req[31:0]` (R91). -/
  req : ReqWord
  /-- `pkt[23:0]` (R66). -/
  pkt : Packet
  /-- `pkt_valid` (R66). -/
  pktValid : Bool
  /-- `transmit_ready`, the transport's free choice (R63 (b)). -/
  transmitReady : Bool
  /-- The bytes the environment appends to `RX` before the core looks (R62). -/
  arrivals : List Byte
  /-- How many bytes the host takes from the head of `RX` through its own access (R80, R109 `RXPKT`). -/
  hostTakes : Nat
  /-- The bytes the host sends through its own access (R77). -/
  hostSends : List Byte
  deriving DecidableEq, Repr, Inhabited

/-- A step in which nobody drives anything and the transport is not ready. -/
def Input.quiet : Input :=
  { rst := false, opStart := false, req := 0, pkt := 0, pktValid := false, transmitReady := false, arrivals := [],
    hostTakes := 0, hostSends := [] }

/-- The host uses the transport itself in this step (R250 (b)). -/
def Input.hostActive (i : Input) : Bool := i.hostTakes != 0 || !i.hostSends.isEmpty

/-- FREE VALUE (log 1): `HS_MAX - 1` of the instance. R9 leaves `HS_MAX` OPEN in 1 to 65535. -/
opaque Config.hsMaxPred : Fin 65535

/-- FREE VALUE (log 1): `ECHO_MAX - 1` of the instance. R9 leaves `ECHO_MAX` OPEN in 1 to 65535. -/
opaque Config.echoMaxPred : Fin 65535

/-- FREE VALUE (log 1): `POLL_MAX` of the instance. R9 leaves it OPEN in 0 to 65535. -/
opaque Config.pollMax : BitVec 16

/-- FREE VALUE (log 3): the inputs that host, transport and device give in the step numbered by the argument, where no
input is scheduled (R18, R62 to R64: they choose under no law but R63's). -/
opaque Config.input : Nat → Input

/-- The instance's parameters: the three open bounds free, the two switches at the spec's defaults (R9). -/
def Config.params : Params :=
  { hsMax := BitVec.ofNat 16 (Config.hsMaxPred.val + 1), echoMax := BitVec.ofNat 16 (Config.echoMaxPred.val + 1),
    pollMax := Config.pollMax, calAfterFinal := true, osExcludeByValue := false }

end Sys2Proof
end

