-- ==== Sys2Proof/Syntax.lean ====
section
/-! DEFINITION. The abstract syntax: the five formats (spec 30_encoding.md R90), the named values of the one-bit fields
(R96, R108), and one constructor for each row of spec/opcode_table.json. -/

namespace Sys2Proof

/-- PGA field: gain 0.5 or gain 1 (R96). -/
inductive Gain where
  | half
  | one
  deriving DecidableEq, Repr

/-- MODE field: single or stream conversion (R96). -/
inductive Mode where
  | single
  | stream
  deriving DecidableEq, Repr

/-- VREF field: VDD (also called internal, C5) or external reference (R96). -/
inductive Vref where
  | vdd
  | external
  deriving DecidableEq, Repr

/-- The five formats (R90). -/
inductive Format where
  | req
  | cmd
  | resp1
  | resp2
  | rsvd
  deriving DecidableEq, Repr

/-- A word of one of the two widths an encoding has (R90, R107): a 32-bit request word or an 8-bit byte. -/
inductive Wire where
  | request (w : ReqWord)
  | byte (b : Byte)
  deriving DecidableEq, Repr

/-- The rows of spec/opcode_table.json: six operations, two reserved operation codes, three wire formats and four
reserved byte values. The operands stand in the order of R108. -/
inductive Instr where
  /-- Auto-baud synchronization (R120). -/
  | autobaud
  /-- Build a command byte from four fields (R150). -/
  | pack (pga : Gain) (mode : Mode) (vref : Vref) (inch : BitVec 2)
  /-- Transmit a command byte and wait for its echo (R155). -/
  | sendcmd (cmd : Byte)
  /-- Decode the packet on the packet port (R170). -/
  | decode (cmd : Byte)
  /-- Decode `count` packets and average (R179). -/
  | decodeos (cmd : Byte) (count : Byte)
  /-- Reverse the bits of a 16-bit word (R200). -/
  | revbits (arg : Half)
  /-- Reserved operation code 0b110 (R95). -/
  | reserved6
  /-- Reserved operation code 0b111 (R95). -/
  | reserved7
  /-- A command byte on the link, `11ccvm0g` (R96). -/
  | cmd (inch : BitVec 2) (vref : Vref) (mode : Mode) (pga : Gain)
  /-- A first data byte of a response, `10ccdddd` (R100). -/
  | resp1 (inch : BitVec 2) (d9_d6 : BitVec 4)
  /-- A second data byte of a response, `0dddddd0` (R101). -/
  | resp2 (d5_d0 : BitVec 6)
  /-- The calibration byte `0xAA` on the link (R104). -/
  | cal
  /-- The confirmation byte `0x55` on the link (R104). -/
  | conf
  /-- The failure sentinel's byte `0xFF` on the link (R104). -/
  | failed
  /-- The pre-synchronized indicator's byte `0x88` on the link (R104). -/
  | presync
  deriving DecidableEq, Repr

/-- The format an instruction is encoded in (R90). -/
def Instr.format : Instr → Format
  | .autobaud => .req
  | .pack _ _ _ _ => .req
  | .sendcmd _ => .req
  | .decode _ => .req
  | .decodeos _ _ => .req
  | .revbits _ => .req
  | .reserved6 => .req
  | .reserved7 => .req
  | .cmd _ _ _ _ => .cmd
  | .resp1 _ _ => .resp1
  | .resp2 _ => .resp2
  | .cal => .rsvd
  | .conf => .rsvd
  | .failed => .rsvd
  | .presync => .rsvd

end Sys2Proof
end

