-- ==== Sys2Proof/Machine/State.lean ====
section
/-! DEFINITION. The machine's state as plain data (spec 10_state.md R20, 20_memory.md R60 to R62), its state right
after reset, and the reasons a step can stop. -/

namespace Sys2Proof.Machine

/-- The sequencer's register `fsm[3:0]` (R22): nine named values, and the seven that no rule produces. -/
inductive Fsm where
  /-- 0: no operation in flight. -/
  | idle
  /-- 1: AUTOBAUD, waiting to send the first calibration byte. -/
  | hsTx0
  /-- 2: AUTOBAUD, waiting for a received byte, which it evaluates. -/
  | hsRx
  /-- 3: AUTOBAUD, waiting to send the calibration byte of the mismatch branch. -/
  | hsTxm
  /-- 4: AUTOBAUD, waiting to send the calibration byte that follows every evaluated byte. -/
  | hsTxa
  /-- 5: SENDCMD, waiting to send the command byte. -/
  | ctTx
  /-- 6: SENDCMD, waiting for the echoed byte. -/
  | ctRx
  /-- 7: DECODEOS, waiting for the next packet presentation. -/
  | osRun
  /-- 8: DECODEOS, forming the result. -/
  | osFin
  /-- The values 9 to 15 (the value is 9 plus the argument), "produced by no rule". -/
  | unassigned (k : Fin 7)
  deriving DecidableEq, Repr

/-- `status[1:0]` (R34, R210): 0, 1, 2, 3 in this order. -/
inductive Status where
  | ok
  | hsTimeout
  | echoTimeout
  | illegalOp
  deriving DecidableEq, Repr

/-- The source's Reading with the failure flag of D6: what one decode yields (R32, R172). -/
structure Reading where
  /-- `ch`. -/
  channel : Byte
  /-- `val`. -/
  value : Half
  /-- `f`. -/
  failed : Bool
  deriving DecidableEq, Repr

/-- The machine: the eighteen registers of R20, the two transport streams (R60 to R62, R39 (a)), the instance's
parameters (R9), and three fields of the model's own (`inp`, `sched`, `tick`; log 3, log 5). -/
structure State where
  /-- `fsm` (R22). -/
  fsm : Fsm
  /-- `rx_conf` (R25). -/
  rxConf : Bool
  /-- `cf_conf` (R25). -/
  cfConf : Bool
  /-- `iter` (R26). -/
  iter : BitVec 16
  /-- `tries` (R27). -/
  tries : BitVec 16
  /-- `poll` (R28). -/
  poll : BitVec 16
  /-- `cmd_lat` (R24). -/
  cmdLat : Byte
  /-- `acc` (R29). -/
  acc : BitVec 18
  /-- `succ` (R30). -/
  succ : BitVec 8
  /-- `rem` (R30). -/
  rem : BitVec 8
  /-- `last_ch` (R30). -/
  lastCh : Byte
  /-- `res_cmd` (R31). -/
  resCmd : Byte
  /-- `res_word` (R31). -/
  resWord : Half
  /-- `res_channel` (R32). -/
  resChannel : Byte
  /-- `res_value` (R32). -/
  resValue : Half
  /-- `res_failed` (R32). -/
  resFailed : Bool
  /-- `status` (R34). -/
  status : Status
  /-- `done` (R34). -/
  done : Bool
  /-- `RX`: the received bytes nobody has read, oldest first (R62). -/
  rx : List Byte
  /-- `TX`: the bytes handed to the transport, oldest first (R61). -/
  tx : List Byte
  /-- The instance's elaboration-time parameters (R9); read-only. -/
  params : Params
  /-- The model's: the input ports as sampled in the current step (R13, R15). -/
  inp : Input
  /-- The model's: the inputs of the coming steps, oldest first; where it is empty the environment is free (log 3). -/
  sched : List Input
  /-- The model's: the number of steps sampled, the argument of the free environment (log 3). -/
  tick : Nat
  deriving DecidableEq, Repr

/-- Why the machine stops. -/
inductive Fault where
  /-- Raised by the sequencer when `fsm` holds a value 9 to 15: "no rule applies" (R22, U17 `stuck`). Safe: nothing is
  claimed of such a run. No step from a state with a named `fsm` reaches one. -/
  | fsmUnassigned
  deriving DecidableEq, Repr

/-- Why the model gives a situation no meaning. -/
inductive Refusal where
  /-- Raised by `exec` for an instruction that has no meaning yet; no instruction is left so. Safe. -/
  | notModelled (mnemonic : String)
  /-- Raised by `step` when the host uses the transport while an AUTOBAUD or SENDCMD is in flight (U13 `refuse`,
  R250 (b)). Safe: the spec gives such a run no meaning. -/
  | hostTransportInFlight
  deriving DecidableEq, Repr

/-- The machine right after reset (R40, R241): every register of R20 at the table's reset value. The streams are
unknown to the spec (log 4), the parameters are the instance's (log 1, log 2), the model's own fields are log 3 and 5. -/
def State.reset : State :=
  { fsm := .idle, rxConf := false, cfConf := false, iter := 0, tries := 0, poll := 0, cmdLat := 0, acc := 0, succ := 0,
    rem := 0, lastCh := 0, resCmd := 0, resWord := 0, resChannel := 0, resValue := 0, resFailed := false, status := .ok,
    done := false, rx := [], tx := [], params := Config.params, inp := Input.quiet, sched := [], tick := 0 }

end Sys2Proof.Machine
end

