-- ==== Sys2Proof/Machine/Flags.lean ====
section
/-! DEFINITION. The flags and the combinational outputs: who sets `rx_conf` and `cf_conf` (spec 10_state.md R35,
40_handshake.md R124, R125), which samples count (R182), `busy` (R34), the transport strobes (20_memory.md R67, R68),
and the codes of `fsm` and `status` (R22, R210). -/

namespace Sys2Proof.Machine

/-- The code of a sequencer state (R22). -/
def fsmCode : Fsm → BitVec 4
  | .idle => 0
  | .hsTx0 => 1
  | .hsRx => 2
  | .hsTxm => 3
  | .hsTxa => 4
  | .ctTx => 5
  | .ctRx => 6
  | .osRun => 7
  | .osFin => 8
  | .unassigned k => BitVec.ofNat 4 (9 + k.val)

/-- The code on the port `status[1:0]` (R210). -/
def statusCode : Status → BitVec 2
  | .ok => 0
  | .hsTimeout => 1
  | .echoTimeout => 2
  | .illegalOp => 3

/-- `fsm` is one of the nine values a rule produces (R22). -/
def fsmAssigned : Fsm → Bool
  | .unassigned _ => false
  | .idle => true
  | .hsTx0 => true
  | .hsRx => true
  | .hsTxm => true
  | .hsTxa => true
  | .ctTx => true
  | .ctRx => true
  | .osRun => true
  | .osFin => true

/-- An `HS_*` state: an AUTOBAUD is in flight. -/
def fsmInHandshake (f : Fsm) : Bool := f == .hsTx0 || f == .hsRx || f == .hsTxm || f == .hsTxa

/-- A `CT_*` state: a SENDCMD is in flight. -/
def fsmInCommand (f : Fsm) : Bool := f == .ctTx || f == .ctRx

/-- A transmit state (R67). -/
def fsmTransmits (f : Fsm) : Bool := f == .hsTx0 || f == .hsTxm || f == .hsTxa || f == .ctTx

/-- A receive state (R68). -/
def fsmReceives (f : Fsm) : Bool := f == .hsRx || f == .ctRx

/-- `busy = (fsm != IDLE)` (R34). -/
def State.busy (s : State) : Bool := s.fsm != .idle

/-- `receive_ready = 1` exactly when `RX` is not empty (R63 (a)). -/
def State.receiveReady (s : State) : Bool := !s.rx.isEmpty

/-- `send_byte` (R67). -/
def State.sendByte (s : State) : Bool := !s.inp.rst && fsmTransmits s.fsm && s.inp.transmitReady

/-- `send_data` (R67). -/
def State.sendData (s : State) : Byte := if s.fsm = .ctTx then s.cmdLat else 0xAA

/-- `read_byte` (R68). -/
def State.readByte (s : State) : Bool := !s.inp.rst && fsmReceives s.fsm && s.receiveReady

/-- The two-stage confirmation on a received `CONF` (R124): the first match sets `rx_conf`, the second consecutive one
sets `cf_conf`. -/
def confirmFlags (rxConf cfConf : Bool) : Bool × Bool := if rxConf then (rxConf, true) else (true, cfConf)

/-- `Counted(val, f)`: by failure, or by value where the instance has `OS_EXCLUDE_BY_VALUE` (R182). -/
def counted (p : Params) (r : Reading) : Bool := if p.osExcludeByValue then r.value != 0x00FF else !r.failed

/-- The host uses the transport in this step while an AUTOBAUD or a SENDCMD is in flight (R250 (b), U13). -/
def State.hostIntrudes (s : State) : Bool := (fsmInHandshake s.fsm || fsmInCommand s.fsm) && s.inp.hostActive

end Sys2Proof.Machine
end

