-- ==== Sys2Proof/Decode.lean ====
section
/-! DEFINITION. The decoder of request words and of bytes, total and rejecting by name, and the encoder, both from
spec 30_encoding.md R91 to R106 and spec/opcode_table.json. -/

namespace Sys2Proof

/-- Why a word is no row of the opcode table. -/
inductive Reject where
  /-- The byte has no format of R96, R100, R101 and is none of the values of R104. -/
  | noSuchByte (b : Byte)
  /-- The byte does not have the fixed bits of the format its place asks for. -/
  | fixedBits (f : Format) (b : Byte)
  /-- The word's width is not the width of the format its place asks for (R90). -/
  | width (f : Format)
  deriving DecidableEq, Repr

/-! ## The one-bit fields (R96, R108) -/

def Gain.bit : Gain → BitVec 1
  | .half => 0
  | .one => 1

def Gain.ofBit (b : Bool) : Gain := if b then .one else .half

def Mode.bit : Mode → BitVec 1
  | .single => 0
  | .stream => 1

def Mode.ofBit (b : Bool) : Mode := if b then .stream else .single

def Vref.bit : Vref → BitVec 1
  | .vdd => 0
  | .external => 1

def Vref.ofBit (b : Bool) : Vref := if b then .external else .vdd

/-! ## The reserved byte values (R104) -/

/-- `CAL`: the byte AUTOBAUD sends. -/
def calByte : Byte := 0xAA

/-- `CONF`: the byte AUTOBAUD compares received bytes with. -/
def confByte : Byte := 0x55

/-- `FAILED`: the content of the result fields after a failed decode. -/
def failedByte : Byte := 0xFF

/-- `PRESYNC`: no behaviour in the core. -/
def presyncByte : Byte := 0x88

/-! ## The fields of the request word (R91) -/

def reqOp (w : ReqWord) : BitVec 3 := w.extractLsb' 29 3
def reqInch (w : ReqWord) : BitVec 2 := w.extractLsb' 27 2
def reqVref (w : ReqWord) : Vref := Vref.ofBit (w.getLsbD 26)
def reqMode (w : ReqWord) : Mode := Mode.ofBit (w.getLsbD 25)
def reqPga (w : ReqWord) : Gain := Gain.ofBit (w.getLsbD 24)
def reqCount (w : ReqWord) : Byte := w.extractLsb' 16 8
def reqArg (w : ReqWord) : Half := w.extractLsb' 0 16
def reqCmd (w : ReqWord) : Byte := w.extractLsb' 0 8

/-- Dispatch on `req[31:29]` (R93). Total: every operation code has a row. Fields an operation does not read are
dropped (R94). -/
def decodeRequest (w : ReqWord) : Instr :=
  match (reqOp w).toNat with
  | 0 => .autobaud
  | 1 => .pack (reqPga w) (reqMode w) (reqVref w) (reqInch w)
  | 2 => .sendcmd (reqCmd w)
  | 3 => .decode (reqCmd w)
  | 4 => .decodeos (reqCmd w) (reqCount w)
  | 5 => .revbits (reqArg w)
  | 6 => .reserved6
  | _ => .reserved7

/-- A byte read as format `CMD`: bits 7:6 are `11` and bit 1 is 0 (R96). -/
def decodeCmd (b : Byte) : Except Reject Instr :=
  if b &&& 0xC2 = 0xC0 then
    .ok (.cmd (b.extractLsb' 4 2) (Vref.ofBit (b.getLsbD 3)) (Mode.ofBit (b.getLsbD 2)) (Gain.ofBit (b.getLsbD 0)))
  else .error (.fixedBits .cmd b)

/-- A byte read as format `RESP1`: bits 7:6 are `10` (R100). -/
def decodeResp1 (b : Byte) : Except Reject Instr :=
  if b &&& 0xC0 = 0x80 then .ok (.resp1 (b.extractLsb' 4 2) (b.extractLsb' 0 4)) else .error (.fixedBits .resp1 b)

/-- A byte read as format `RESP2`: bits 7 and 0 are 0 (R101). -/
def decodeResp2 (b : Byte) : Except Reject Instr :=
  if b &&& 0x81 = 0x00 then .ok (.resp2 (b.extractLsb' 1 6)) else .error (.fixedBits .resp2 b)

/-- A byte read as one of the four reserved values (R104). -/
def decodeRsvd (b : Byte) : Except Reject Instr :=
  if b = calByte then .ok .cal
  else if b = confByte then .ok .conf
  else if b = failedByte then .ok .failed
  else if b = presyncByte then .ok .presync
  else .error (.fixedBits .rsvd b)

/-- A word read in a place that fixes its format: a request word on the operation port, the bytes of a packet (R102,
R100, R101). -/
def decodeAs (f : Format) (w : Wire) : Except Reject Instr :=
  match f, w with
  | .req, .request w => .ok (decodeRequest w)
  | .cmd, .byte b => decodeCmd b
  | .resp1, .byte b => decodeResp1 b
  | .resp2, .byte b => decodeResp2 b
  | .rsvd, .byte b => decodeRsvd b
  | .req, .byte _ => .error (.width .req)
  | .cmd, .request _ => .error (.width .cmd)
  | .resp1, .request _ => .error (.width .resp1)
  | .resp2, .request _ => .error (.width .resp2)
  | .rsvd, .request _ => .error (.width .rsvd)

/-- A byte read without its place: the four exact values first, then the one pattern it has; `0xAA` and `0x88` also
have the pattern of `RESP1` (R105; log 7). -/
def decodeByte (b : Byte) : Except Reject Instr :=
  match decodeRsvd b with
  | .ok i => .ok i
  | .error _ =>
    match decodeCmd b with
    | .ok i => .ok i
    | .error _ =>
      match decodeResp1 b with
      | .ok i => .ok i
      | .error _ =>
        match decodeResp2 b with
        | .ok i => .ok i
        | .error _ => .error (.noSuchByte b)

/-- The decoder: a request word by R93, a byte by its pattern. Total on any word. -/
def decode : Wire → Except Reject Instr
  | .request w => .ok (decodeRequest w)
  | .byte b => decodeByte b

/-! ## The encoder -/

/-- The request word of its fields, from bit 31 down to bit 0 (R91). -/
def requestWord (op : BitVec 3) (inch : BitVec 2) (vref : BitVec 1) (mode : BitVec 1) (pga : BitVec 1)
    (count : Byte) (arg : Half) : ReqWord :=
  op ++ inch ++ vref ++ mode ++ pga ++ count ++ arg

/-- The 16-bit `arg` field of an operation that reads `arg[7:0]` only (R91, R94). -/
def cmdArg (cmd : Byte) : Half := (0 : Byte) ++ cmd

/-- The command byte of its fields, `1 1 INCH VREF MODE 0 PGA` from bit 7 down (R96). -/
def cmdByte (inch : BitVec 2) (vref : Vref) (mode : Mode) (pga : Gain) : Byte :=
  (3 : BitVec 2) ++ inch ++ vref.bit ++ mode.bit ++ (0 : BitVec 1) ++ pga.bit

/-- Packet byte 1, `1 0 INCH D9..D6` from bit 7 down (R100). -/
def resp1Byte (inch : BitVec 2) (d9_d6 : BitVec 4) : Byte := (2 : BitVec 2) ++ inch ++ d9_d6

/-- Packet byte 2, `0 D5..D0 0` from bit 7 down (R101). -/
def resp2Byte (d5_d0 : BitVec 6) : Byte := (0 : BitVec 1) ++ d5_d0 ++ (0 : BitVec 1)

/-- The word of an instruction; fields an operation does not read are 0. -/
def encode : Instr → Wire
  | .autobaud => .request (requestWord 0 0 0 0 0 0 0)
  | .pack pga mode vref inch => .request (requestWord 1 inch vref.bit mode.bit pga.bit 0 0)
  | .sendcmd cmd => .request (requestWord 2 0 0 0 0 0 (cmdArg cmd))
  | .decode cmd => .request (requestWord 3 0 0 0 0 0 (cmdArg cmd))
  | .decodeos cmd count => .request (requestWord 4 0 0 0 0 count (cmdArg cmd))
  | .revbits arg => .request (requestWord 5 0 0 0 0 0 arg)
  | .reserved6 => .request (requestWord 6 0 0 0 0 0 0)
  | .reserved7 => .request (requestWord 7 0 0 0 0 0 0)
  | .cmd inch vref mode pga => .byte (cmdByte inch vref mode pga)
  | .resp1 inch d => .byte (resp1Byte inch d)
  | .resp2 d => .byte (resp2Byte d)
  | .cal => .byte calByte
  | .conf => .byte confByte
  | .failed => .byte failedByte
  | .presync => .byte presyncByte

/-- The packet of a command `k`, a channel and a 10-bit reading: `b0 = k`, `b1 = 10 c r[9:6]`, `b2 = 0 r[5:0] 0` (R103). -/
def packetOf (k : Byte) (c : BitVec 2) (r : BitVec 10) : Packet :=
  k ++ resp1Byte c (r.extractLsb' 6 4) ++ resp2Byte (r.extractLsb' 0 6)

/-- The word of `nbits` bits whose value is `w`: 32 bits are a request word, 8 bits a byte, nothing else is a word of
this hardware (R90, R107; log 11). -/
def tableWire (nbits w : Nat) : Option Wire :=
  if nbits = 32 then some (.request (BitVec.ofNat 32 w))
  else if nbits = 8 then some (.byte (BitVec.ofNat 8 w))
  else none

/-- The instruction the decoder reads from a row's word, numbered as spec/opcode_table.json numbers its bits. -/
def decodeTableWord (nbits w : Nat) : Option Instr :=
  match tableWire nbits w with
  | some x =>
    match decode x with
    | .ok i => some i
    | .error _ => none
  | none => none

end Sys2Proof
end

