-- ==== Sys2Proof/Machine/Operands.lean ====
section
/-! DEFINITION. The operands and the pure functions of the operations: the packet's lanes (spec 20_memory.md R66), the
command byte (R97), the decode function (R172), the bit reversal (R201), the mean (R184). -/

namespace Sys2Proof.Machine

/-- `b0 = pkt[23:16]`, the echo (R66). -/
def pktB0 (p : Packet) : Byte := p.extractLsb' 16 8

/-- `b1 = pkt[15:8]`, `data1` (R66). -/
def pktB1 (p : Packet) : Byte := p.extractLsb' 8 8

/-- `b2 = pkt[7:0]`, `data2` (R66). -/
def pktB2 (p : Packet) : Byte := p.extractLsb' 0 8

/-- `CMD(inch, vref, mode, pga)`: the bitwise OR of pre-shifted fields (R97, R151). -/
def packByte (pga : Gain) (mode : Mode) (vref : Vref) (inch : BitVec 2) : Byte :=
  0xC0 ||| (inch.setWidth 8 <<< 4) ||| (vref.bit.setWidth 8 <<< 3) ||| (mode.bit.setWidth 8 <<< 2) ||| pga.bit.setWidth 8

/-- The failed result: the sentinel in both fields, and the flag (R32, R175). -/
def failedReading : Reading := { channel := failedByte, value := failedByte.setWidth 16, failed := true }

/-- `inter`: byte 1 shifted left by 7 over byte 2, in 16 bits (R172). -/
def packetInter (b1 b2 : Byte) : Half := (b1.setWidth 16 <<< 7) ||| b2.setWidth 16

/-- `Dec(b0, b1, b2, k)` (R172), with the corrected mask `0x07FE` (C1). Only byte 0 is validated (R174). -/
def dec (b0 b1 b2 k : Byte) : Reading :=
  if b0 = k then
    { channel := (b1 &&& 0x30) >>> 4, value := (packetInter b1 b2 &&& 0x07FE) >>> 1, failed := false }
  else failedReading

/-- `Dec` of the three bytes of the packet port (R171, R181). -/
def decPacket (p : Packet) (k : Byte) : Reading := dec (pktB0 p) (pktB1 p) (pktB2 p) k

/-- `Rev`: bit `i` of the result is bit `15 - i` of the operand (R201). -/
def revHalf (w : Half) : Half :=
  BitVec.ofBoolListLE [w.getLsbD 15, w.getLsbD 14, w.getLsbD 13, w.getLsbD 12, w.getLsbD 11, w.getLsbD 10, w.getLsbD 9,
    w.getLsbD 8, w.getLsbD 7, w.getLsbD 6, w.getLsbD 5, w.getLsbD 4, w.getLsbD 3, w.getLsbD 2, w.getLsbD 1, w.getLsbD 0]

/-- The reading DECODEOS ends with: the failed one when nothing was counted, else the channel of the last attempt and
the truncated mean (R184). The divisor is never 0. -/
def meanReading (acc : BitVec 18) (succ : BitVec 8) (lastCh : Byte) : Reading :=
  if succ = 0 then failedReading
  else { channel := lastCh, value := (acc / succ.setWidth 18).setWidth 16, failed := false }

end Sys2Proof.Machine
end

