-- ==== Sys2Proof/Machine/Ops.lean ====
section
/-! DEFINITION. The named operations every rule is made of: sampling the inputs (spec 00_scope.md R13, R15, R18), the
streams (20_memory.md R61 to R63, R67, R68), the two exits of an operation (60_exceptions.md R216, R217), the poll bound
(R70) and the register reset (R40). In each, every right-hand side reads the state before the step (R13). -/

namespace Sys2Proof.Machine

/-! ## Inputs and streams -/

/-- Sample the ports for this step: the next scheduled input, or a free one (R13, R18; log 3). -/
def State.sample (s : State) : State :=
  { s with inp := s.sched.headD (Config.input s.tick), sched := s.sched.tail, tick := s.tick + 1 }

/-- The environment appends bytes to `RX` (R62). -/
def State.deliver (bs : List Byte) (s : State) : State := { s with rx := s.rx ++ bs }

/-- What the other agents do to the streams in this step: arrivals, then what the host takes from the head of `RX` and
sends on `TX` through its own access (R62, R77, R80; log 10). -/
def State.environment (s : State) : State :=
  { s with rx := (s.rx ++ s.inp.arrivals).drop s.inp.hostTakes, tx := s.tx ++ s.inp.hostSends }

/-- `Send(b)`: append `b` to `TX` and clear `poll` (R14, R28, R67). -/
def State.send (b : Byte) (s : State) : State := { s with tx := s.tx ++ [b], poll := 0 }

/-- The state after `Recv()`: the head of `RX` is gone and `poll` is cleared (R14, R28, R68). -/
def State.consume (s : State) : State := { s with rx := s.rx.tail, poll := 0 }

/-! ## The ends of a step -/

/-- A step that completes nothing: `done <- 0` (R34). -/
def State.hold (s : State) : State := { s with done := false }

/-- `fsm <- f` in a step that completes nothing (R14, R34). -/
def State.goto (f : Fsm) (s : State) : State := { s with fsm := f, done := false }

/-- TAKING AN EXCEPTION: the error exit `raise st` (R216, R219). Nothing is saved and there is no vector: control goes
to `IDLE`. There is no return operation (R220): the next accepted request runs from there. -/
def State.raise (st : Status) (s : State) : State := { s with status := st, done := true, fsm := .idle }

/-- The normal exit `complete OK` (R217). -/
def State.complete (s : State) : State := { s with status := .ok, done := true, fsm := .idle }

/-- The not-ready step of a transport wait (R70): give up at the poll bound, else count, else wait without bound. -/
def State.pollWait (err : Status) (s : State) : State :=
  if s.params.pollMax = 0 then s.hold
  else if s.poll = s.params.pollMax - 1 then s.raise err
  else { s with poll := s.poll + 1, done := false }

/-- The result registers take a reading, all three together (R32, R190). -/
def State.setReading (r : Reading) (s : State) : State :=
  { s with resChannel := r.channel, resValue := r.value, resFailed := r.failed }

/-- `rst = 1` (R40): every register of R20 takes its reset value; the streams, the parameters and the model's own fields
are untouched. -/
def State.resetCore (s : State) : State :=
  { State.reset with rx := s.rx, tx := s.tx, params := s.params, inp := s.inp, sched := s.sched, tick := s.tick }

end Sys2Proof.Machine
end

