-- ==== Sys2Proof/Machine/Command.lean ====
section
/-! DEFINITION. The PACK unit: the accepting steps of PACK and SENDCMD and the two wait states of SENDCMD (spec
41_command.md R151 to R160). -/

namespace Sys2Proof.Machine

/-- The accepting step of PACK, which also completes it (R151). -/
def acceptPack (pga : Gain) (mode : Mode) (vref : Vref) (inch : BitVec 2) (s : State) : State :=
  { s with resCmd := packByte pga mode vref inch }.complete

/-- The accepting step of SENDCMD (R157). -/
def acceptSendcmd (cmd : Byte) (s : State) : State :=
  { s with cmdLat := cmd, tries := 0, poll := 0, fsm := .ctTx, done := false }

/-- State `CT_TX` (R158). -/
def stepCtTx (s : State) : State :=
  if s.inp.transmitReady then { s.send s.cmdLat with tries := s.tries + 1 }.goto .ctRx else s.pollWait .echoTimeout

/-- State `CT_RX` (R159, R160): a match is tested before the retry bound. -/
def stepCtRx (s : State) : State :=
  match s.rx with
  | [] => s.pollWait .echoTimeout
  | b :: _ =>
    if b = s.cmdLat then s.consume.complete
    else if s.tries = s.params.echoMax then s.consume.raise .echoTimeout
    else s.consume.goto .ctTx

end Sys2Proof.Machine
end

