-- ==== Sys2Proof/Machine/Handshake.lean ====
section
/-! DEFINITION. The HS unit: the four wait states of AUTOBAUD and its accepting step (spec 40_handshake.md R121 to R128). -/

namespace Sys2Proof.Machine

/-- The accepting step of AUTOBAUD (R121). -/
def acceptAutobaud (s : State) : State :=
  { s with rxConf := false, cfConf := false, iter := 0, poll := 0, fsm := .hsTx0, done := false }

/-- State `HS_TX0` (R122). -/
def stepHsTx0 (s : State) : State :=
  if s.inp.transmitReady then (s.send calByte).goto .hsRx else s.pollWait .hsTimeout

/-- State `HS_RX`, a received byte equal to `CONF` (R124). Its case `rx_conf = cf_conf = 1` cannot occur (R124; log 17). -/
def stepHsMatch (s : State) : State :=
  let flags := confirmFlags s.rxConf s.cfConf
  let s1 := { s.consume with iter := s.iter + 1, rxConf := flags.1, cfConf := flags.2 }
  if s.rxConf && !s.params.calAfterFinal then s1.complete else s1.goto .hsTxa

/-- State `HS_RX`, a received byte not equal to `CONF` (R125). -/
def stepHsMismatch (s : State) : State :=
  { s.consume with iter := s.iter + 1, rxConf := false, cfConf := false }.goto .hsTxm

/-- State `HS_RX` (R123, R124, R125). -/
def stepHsRx (s : State) : State :=
  match s.rx with
  | [] => s.pollWait .hsTimeout
  | b :: _ => if b = confByte then stepHsMatch s else stepHsMismatch s

/-- State `HS_TXM` (R126). -/
def stepHsTxm (s : State) : State :=
  if s.inp.transmitReady then (s.send calByte).goto .hsTxa else s.pollWait .hsTimeout

/-- State `HS_TXA` (R127): success is tested before the iteration bound. -/
def stepHsTxa (s : State) : State :=
  if s.inp.transmitReady then
    if s.rxConf && s.cfConf then (s.send calByte).complete
    else if s.iter = s.params.hsMax then (s.send calByte).raise .hsTimeout
    else (s.send calByte).goto .hsRx
  else s.pollWait .hsTimeout

end Sys2Proof.Machine
end

