-- ==== Sys2Proof/Machine/Unpack.lean ====
section
/-! DEFINITION. The UNPACK unit: the accepting steps of DECODE, DECODEOS and REVBITS and the two states of DECODEOS
(spec 42_decode.md R171, R180 to R184, 43_revbits.md R201). -/

namespace Sys2Proof.Machine

/-- The accepting step of DECODE, which also completes it; `pkt_valid` is ignored (R171). -/
def acceptDecode (cmd : Byte) (s : State) : State := (s.setReading (decPacket s.inp.pkt cmd)).complete

/-- The accepting step of DECODEOS (R180). -/
def acceptDecodeos (cmd count : Byte) (s : State) : State :=
  { s with cmdLat := cmd, rem := count, acc := 0, succ := 0, lastCh := 0xFF }.goto (if count = 0 then .osFin else .osRun)

/-- One attempt of DECODEOS: the packet sampled in this step (R181). -/
def osAttempt (r : Reading) (s : State) : State :=
  let n : BitVec 8 := if counted s.params r then 1 else 0
  let v : Half := if counted s.params r then r.value else 0
  { s with lastCh := r.channel, acc := s.acc + v.setWidth 18, succ := s.succ + n, rem := s.rem - 1 }.goto
    (if s.rem = 1 then .osFin else .osRun)

/-- State `OS_RUN` (R181, R183): the wait for the host has no bound. -/
def stepOsRun (s : State) : State :=
  if s.inp.pktValid then osAttempt (decPacket s.inp.pkt s.cmdLat) s else s.hold

/-- State `OS_FIN`, one step (R184). -/
def stepOsFin (s : State) : State := (s.setReading (meanReading s.acc s.succ s.lastCh)).complete

/-- The accepting step of REVBITS, which also completes it (R201). -/
def acceptRevbits (arg : Half) (s : State) : State := { s with resWord := revHalf arg }.complete

end Sys2Proof.Machine
end

