-- ==== Sys2Proof/Machine/Sequencer.lean ====
section
/-! DEFINITION. The sequencer (spec 10_state.md R22, R23): the step of a state in which no request is accepted, and the
acceptance of a request (30_encoding.md R92). -/

namespace Sys2Proof.Machine

/-- One step with `rst = 0` in which no request is accepted (R23): the rule of the state `fsm` names. -/
def advance (s : State) : Host.Outcome State Fault Refusal :=
  match s.fsm with
  | .idle => .next s.hold
  | .hsTx0 => .next (stepHsTx0 s)
  | .hsRx => .next (stepHsRx s)
  | .hsTxm => .next (stepHsTxm s)
  | .hsTxa => .next (stepHsTxa s)
  | .ctTx => .next (stepCtTx s)
  | .ctRx => .next (stepCtRx s)
  | .osRun => .next (stepOsRun s)
  | .osFin => .next (stepOsFin s)
  | .unassigned _ => .fault .fsmUnassigned

/-- A request is presented (`op_start = 1`, `rst = 0`): accepted in `IDLE`, where the accepting step has the effect
given; lost while the core is busy, which takes its ordinary step (R92). -/
def present (effect : State → State) (s : State) : Host.Outcome State Fault Refusal :=
  if s.fsm = .idle then .next (effect s) else advance s

/-- A byte arrives on the receive stream in a step in which no request is presented: it is appended to `RX`, and the
core takes its step (R62, R80; log 6). -/
def receiveByte (b : Byte) (s : State) : Host.Outcome State Fault Refusal := advance (s.deliver [b])

end Sys2Proof.Machine
end

