-- ==== Sys2Proof/Machine/LinkBytes.lean ====
section
/-! DEFINITION. The meanings of the seven byte rows (spec 30_encoding.md R96, R100, R101, R104). A byte is no operation;
its meaning as an instruction is what the core does in the step in which that byte arrives on the receive stream and no
request is presented (20_memory.md R62: "every byte value 0x00 to 0xFF is a possible input to every rule that reads RX";
log 6). -/

namespace Sys2Proof.Machine

/-- A command byte arrives: the echo SENDCMD waits for (R102, R160). -/
def execCmd (inch : BitVec 2) (vref : Vref) (mode : Mode) (pga : Gain) (s : State) : Host.Outcome State Fault Refusal :=
  receiveByte (cmdByte inch vref mode pga) s

/-- A first data byte arrives (R65, R100). -/
def execResp1 (inch : BitVec 2) (d9_d6 : BitVec 4) (s : State) : Host.Outcome State Fault Refusal :=
  receiveByte (resp1Byte inch d9_d6) s

/-- A second data byte arrives (R65, R101). -/
def execResp2 (d5_d0 : BitVec 6) (s : State) : Host.Outcome State Fault Refusal := receiveByte (resp2Byte d5_d0) s

/-- The calibration byte's value arrives: to AUTOBAUD a plain mismatch (R125). -/
def execCal (s : State) : Host.Outcome State Fault Refusal := receiveByte calByte s

/-- The confirmation byte arrives: to AUTOBAUD a confirmation (R124). -/
def execConf (s : State) : Host.Outcome State Fault Refusal := receiveByte confByte s

/-- The failure sentinel's value arrives: to AUTOBAUD a plain mismatch (R125). -/
def execFailed (s : State) : Host.Outcome State Fault Refusal := receiveByte failedByte s

/-- The pre-synchronized indicator's value arrives: to AUTOBAUD a plain mismatch (R125, R133 (g)). -/
def execPresync (s : State) : Host.Outcome State Fault Refusal := receiveByte presyncByte s

end Sys2Proof.Machine
end

