-- ==== Sys2Proof/Machine/Requests.lean ====
section
/-! DEFINITION. The meanings of the eight request rows (spec 30_encoding.md R93): one step of the core in which the
request is on the operation port with `op_start = 1` and `rst = 0`, the input ports being the ones sampled in `inp`. -/

namespace Sys2Proof.Machine

/-- AUTOBAUD (R121). -/
def execAutobaud (s : State) : Host.Outcome State Fault Refusal := present acceptAutobaud s

/-- PACK (R151). -/
def execPack (pga : Gain) (mode : Mode) (vref : Vref) (inch : BitVec 2) (s : State) : Host.Outcome State Fault Refusal :=
  present (acceptPack pga mode vref inch) s

/-- SENDCMD (R157). -/
def execSendcmd (cmd : Byte) (s : State) : Host.Outcome State Fault Refusal := present (acceptSendcmd cmd) s

/-- DECODE (R171). -/
def execDecode (cmd : Byte) (s : State) : Host.Outcome State Fault Refusal := present (acceptDecode cmd) s

/-- DECODEOS (R180). -/
def execDecodeos (cmd count : Byte) (s : State) : Host.Outcome State Fault Refusal := present (acceptDecodeos cmd count) s

/-- REVBITS (R201). -/
def execRevbits (arg : Half) (s : State) : Host.Outcome State Fault Refusal := present (acceptRevbits arg) s

/-- The reserved operation code 0b110: `ILLEGAL_OP` (R95, R216). -/
def execReserved6 (s : State) : Host.Outcome State Fault Refusal := present (State.raise .illegalOp) s

/-- The reserved operation code 0b111: `ILLEGAL_OP` (R95, R216). -/
def execReserved7 (s : State) : Host.Outcome State Fault Refusal := present (State.raise .illegalOp) s

end Sys2Proof.Machine
end

