-- ==== Sys2Proof/Machine/Dispatch.lean ====
section
/-! DEFINITION. The dispatch: one arm per row of spec/opcode_table.json. -/

namespace Sys2Proof.Machine

def exec (i : Instr) (s : State) : Host.Outcome State Fault Refusal :=
  match i with
  | .autobaud => Sys2Proof.Machine.execAutobaud s
  | .pack pga mode vref inch => Sys2Proof.Machine.execPack pga mode vref inch s
  | .sendcmd cmd => Sys2Proof.Machine.execSendcmd cmd s
  | .decode cmd => Sys2Proof.Machine.execDecode cmd s
  | .decodeos cmd count => Sys2Proof.Machine.execDecodeos cmd count s
  | .revbits arg => Sys2Proof.Machine.execRevbits arg s
  | .reserved6 => Sys2Proof.Machine.execReserved6 s
  | .reserved7 => Sys2Proof.Machine.execReserved7 s
  | .cmd inch vref mode pga => Sys2Proof.Machine.execCmd inch vref mode pga s
  | .resp1 inch d => Sys2Proof.Machine.execResp1 inch d s
  | .resp2 d => Sys2Proof.Machine.execResp2 d s
  | .cal => Sys2Proof.Machine.execCal s
  | .conf => Sys2Proof.Machine.execConf s
  | .failed => Sys2Proof.Machine.execFailed s
  | .presync => Sys2Proof.Machine.execPresync s

end Sys2Proof.Machine
end

