-- ==== Sys2Proof/Machine/Fetch.lean ====
section
/-! DEFINITION. What the sampled inputs present to the core: a request word on the operation port (spec 30_encoding.md
R92, R93), a byte of the opcode table on the link, or neither. -/

namespace Sys2Proof.Machine

/-- The request on the operation port, where `op_start = 1` (R92). -/
def fetchRequest (i : Input) : Option Instr := if i.opStart then some (decodeRequest i.req) else none

/-- The byte row that arrives, where one byte arrives, no request is presented and the host leaves the streams alone. -/
def fetchByte (i : Input) : Option Instr :=
  match i.opStart || i.hostActive, i.arrivals with
  | false, [b] =>
    match decodeByte b with
    | .ok r => some r
    | .error _ => none
  | _, _ => none

/-- The same ports with no reset, no start, no arrival and no access of the host. -/
def calmPorts (i : Input) : Input :=
  { i with rst := false, opStart := false, arrivals := [], hostTakes := 0, hostSends := [] }

/-- The ports with a request word presented. -/
def portsWithRequest (w : ReqWord) (i : Input) : Input := { calmPorts i with opStart := true, req := w }

/-- The ports with one byte arriving on the link. -/
def portsWithByte (b : Byte) (i : Input) : Input := { calmPorts i with arrivals := [b] }

end Sys2Proof.Machine
end

