-- ==== Sys2Proof/Machine/Step.lean ====
section
/-! DEFINITION. One step of the machine (spec 00_scope.md R15, 60_exceptions.md R218): sample the inputs, then reset
before anything else, then the request or the byte they present, else the sequencer's own step. -/

namespace Sys2Proof.Machine

/-- One step: one sample of every input, one evaluation of the transition rules (R15). `rst` comes first (R218 (1)); the
host's use of the transport while an AUTOBAUD or SENDCMD is in flight has no meaning (U13). -/
def step (s : State) : Host.Outcome State Fault Refusal :=
  let s1 := s.sample
  if s1.inp.rst then .next s1.environment.resetCore
  else if s1.hostIntrudes then .refused .hostTransportInFlight
  else
    match fetchRequest s1.inp with
    | some i => exec i s1.environment
    | none =>
      match fetchByte s1.inp with
      | some i => exec i s1
      | none => advance s1.environment

/-- `s` with the word `w` placed where the next step fetches (log 12): a 32-bit word as the request presented in the
next step, with the core in `IDLE` so that it is accepted; an 8-bit word as the byte that arrives in the next step. The
other ports keep what was sampled last; a word of another width is none of this hardware's, and nothing is placed. -/
def State.withFetchWord (s : State) (nbits w : Nat) : State :=
  match tableWire nbits w with
  | some (.request r) => { s with fsm := .idle, sched := portsWithRequest r s.inp :: s.sched }
  | some (.byte b) => { s with sched := portsWithByte b s.inp :: s.sched }
  | none => s

end Sys2Proof.Machine
end

