-- ==== Sys2Proof/Safety.lean ====
section
/-! DEFINITION. The words claims use: the state a step's rules see, the invariants the spec states or implies of every
state that a run reaches, readiness of an input, and equality apart from the sampled ports. -/

namespace Sys2Proof

/-- An input in which only the operation port and the packet port may be driven, and the transport is ready: nothing
arrives, no reset, no access of the host. -/
abbrev Input.ready (i : Input) : Prop :=
  i.rst = false ∧ i.arrivals = [] ∧ i.hostTakes = 0 ∧ i.hostSends = [] ∧ i.transmitReady = true

/-- The same with the transport not ready to send. -/
abbrev Input.silent (i : Input) : Prop :=
  i.rst = false ∧ i.arrivals = [] ∧ i.hostTakes = 0 ∧ i.hostSends = [] ∧ i.transmitReady = false

/-- The requests whose accepting step is also the completing step (R23, R93): PACK, DECODE, REVBITS, the reserved codes. -/
def Instr.completesAtOnce : Instr → Bool
  | .pack _ _ _ _ => true
  | .decode _ => true
  | .revbits _ => true
  | .reserved6 => true
  | .reserved7 => true
  | .autobaud => false
  | .sendcmd _ => false
  | .decodeos _ _ => false
  | .cmd _ _ _ _ => false
  | .resp1 _ _ => false
  | .resp2 _ => false
  | .cal => false
  | .conf => false
  | .failed => false
  | .presync => false

end Sys2Proof

namespace Sys2Proof.Machine

/-- The state the rules of this step read: inputs sampled, the other agents' accesses done (spec 00_scope.md R13, R18). -/
def State.seen (s : State) : State := s.sample.environment

/-- A step accepts an operation exactly when `rst = 0`, `fsm = IDLE` and `op_start = 1` (R92). -/
def State.Accepts (s : State) : Prop := s.seen.inp.rst = false ∧ s.fsm = .idle ∧ s.seen.inp.opStart = true

/-- The request a step's `req` port holds. -/
def State.request (s : State) : Instr := decodeRequest s.seen.inp.req

/-! ## Invariants -/

/-- HS unit: `cf_conf = 1` implies `rx_conf = 1` (R25, R130 (e)); the flags and the count each state allows (R26, R124,
R127, R128). -/
structure HandshakeInv (s : State) : Prop where
  flags : s.cfConf = true → s.rxConf = true
  tx0 : s.fsm = .hsTx0 → s.rxConf = false ∧ s.cfConf = false ∧ s.iter = 0
  rx : s.fsm = .hsRx → s.cfConf = false ∧ s.iter.toNat < s.params.hsMax.toNat
  txm : s.fsm = .hsTxm → s.rxConf = false ∧ s.cfConf = false ∧ 0 < s.iter.toNat ∧ s.iter.toNat ≤ s.params.hsMax.toNat
  txa : s.fsm = .hsTxa → 0 < s.iter.toNat ∧ s.iter.toNat ≤ s.params.hsMax.toNat ∧
    (s.cfConf = true → s.params.calAfterFinal = true)

/-- SENDCMD: the count of transmissions each state allows (R27, R160). -/
structure CommandInv (s : State) : Prop where
  tx : s.fsm = .ctTx → s.tries.toNat < s.params.echoMax.toNat
  rx : s.fsm = .ctRx → 0 < s.tries.toNat ∧ s.tries.toNat ≤ s.params.echoMax.toNat

/-- The poll counter stays below its bound, and at 0 where there is none (R70). -/
structure PollInv (s : State) : Prop where
  unbounded : s.params.pollMax = 0 → s.poll = 0
  bounded : s.params.pollMax ≠ 0 → s.poll.toNat < s.params.pollMax.toNat

/-- DECODEOS: the sum is bounded by the counted samples, so it never wraps (R29, R191); the attempts still to come and
the counted ones fit 8 bits (R30); the channel is one a decode yields (R172). -/
structure OversampleInv (s : State) : Prop where
  sum : s.acc.toNat ≤ 1023 * s.succ.toNat
  run : s.fsm = .osRun → 0 < s.rem.toNat ∧ s.succ.toNat + s.rem.toNat ≤ 255
  fin : s.fsm = .osFin → s.rem = 0
  channel : s.lastCh.toNat ≤ 3 ∨ s.lastCh = 0xFF

/-- The result registers: a value of 0 to 1023, a channel of 0 to 3 or the sentinel, and the sentinel in both fields
when the flag says so (R32, R175); `res_cmd` is a byte PACK can build, or its reset value (R31, R151). -/
structure ResultInv (s : State) : Prop where
  value : s.resValue.toNat ≤ 1023
  channel : s.resChannel.toNat ≤ 3 ∨ s.resChannel = 0xFF
  sentinel : s.resFailed = true → s.resChannel = 0xFF ∧ s.resValue = 0x00FF
  command : s.resCmd = 0 ∨ s.resCmd &&& 0xC2 = 0xC0

/-- Every state a run reaches: `fsm` is one of its nine values (R22), `done` shows only in `IDLE` (R34, R258), the
parameters are in range (R9), and each unit's own invariant. -/
structure State.Inv (s : State) : Prop where
  fsm : fsmAssigned s.fsm = true
  done : s.done = true → s.fsm = .idle
  params : s.params.wf
  handshake : HandshakeInv s
  command : CommandInv s
  poll : PollInv s
  oversample : OversampleInv s
  result : ResultInv s

/-! ## Runs under given inputs -/

/-- `f` is a wait state whose awaited readiness is absent while the transport cannot send and `RX` is `rx` (R70). -/
def fsmStarves (f : Fsm) (rx : List Byte) : Bool := fsmTransmits f || (fsmReceives f && rx.isEmpty)

/-- The timeout status of a wait state's family (R70). -/
def fsmTimeout (f : Fsm) : Status := if fsmInCommand f then .echoTimeout else .hsTimeout

/-- Two consecutive confirmation bytes stand somewhere in the list (R129). -/
def hasConfPair : List Byte → Bool
  | a :: b :: rest => (a == 0x55 && b == 0x55) || hasConfPair (b :: rest)
  | [_] => false
  | [] => false

/-- How many of the bytes are not the confirmation byte: the `m` of R129. -/
def mismatches (bs : List Byte) : Nat := (bs.filter (· != 0x55)).length

/-- The counted readings among the packets of a DECODEOS (R182, R185). -/
def countedReadings (p : Params) (k : Byte) (packets : List Packet) : List Reading :=
  (packets.map (fun q => decPacket q k)).filter (counted p)

/-- The sum of the values of a list of readings (R185). -/
def sumValues (rs : List Reading) : Nat := (rs.map (fun r => r.value.toNat)).sum

/-- The streams `RX` and `TX` after steps with these inputs in which the core itself neither sends nor reads: the device's
arrivals and the host's own accesses alone (R62, R77, R80). -/
def streamsWithoutCore : List Input → List Byte × List Byte → List Byte × List Byte
  | [], p => p
  | i :: is, (rx, tx) => streamsWithoutCore is ((rx ++ i.arrivals).drop i.hostTakes, tx ++ i.hostSends)

/-- Two outcomes are the same but for the sampled input ports: the same next state apart from `inp`, or the same stop. -/
def sameApartFromPorts : Host.Outcome State Fault Refusal → Host.Outcome State Fault Refusal → Prop
  | .next a, .next b => { a with inp := b.inp } = b
  | .fault a, .fault b => a = b
  | .refused a, .refused b => a = b
  | .next _, .fault _ => False
  | .next _, .refused _ => False
  | .fault _, .next _ => False
  | .fault _, .refused _ => False
  | .refused _, .next _ => False
  | .refused _, .fault _ => False

end Sys2Proof.Machine
end

