-- ==== Sys2Proof/WellFormed.lean ====
section
/-! DEFINITION. Which terms of the syntax stand for what the spec admits: `Instr.wf` (the term has a word of its own
when a byte is read without knowing its place) and `Instr.inDomain` (the source's precondition on the channel field). -/

namespace Sys2Proof

/-- The two first data bytes that are also reserved byte values: `0xAA` (channel 2, D9..D6 = 1010; R105) and `0x88`
(channel 0, D9..D6 = 1000). In a packet such a byte is data; read alone, the opcode table names it CAL or PRESYNC (log 7). -/
def resp1IsReservedValue (inch : BitVec 2) (d9_d6 : BitVec 4) : Bool :=
  (inch == 2 && d9_d6 == 10) || (inch == 0 && d9_d6 == 8)

/-- The instruction is the one its word names when the word is read without its place. Every operand value of every
other row is admitted: the core validates nothing (R99, R152). -/
def Instr.wf : Instr → Bool
  | .resp1 inch d => !resp1IsReservedValue inch d
  | .autobaud => true
  | .pack _ _ _ _ => true
  | .sendcmd _ => true
  | .decode _ => true
  | .decodeos _ _ => true
  | .revbits _ => true
  | .reserved6 => true
  | .reserved7 => true
  | .cmd _ _ _ _ => true
  | .resp2 _ => true
  | .cal => true
  | .conf => true
  | .failed => true
  | .presync => true

/-- The source's precondition "exactly one value from each field's domain": INCH is 0, 1 or 2 (R98, R99, R250 (d)).
No meaning depends on it; a claim about a well-behaved host or device takes it as a premise. -/
def Instr.inDomain : Instr → Bool
  | .pack _ _ _ inch => inch != 3
  | .cmd inch _ _ _ => inch != 3
  | .resp1 inch _ => inch != 3
  | .autobaud => true
  | .sendcmd _ => true
  | .decode _ => true
  | .decodeos _ _ => true
  | .revbits _ => true
  | .reserved6 => true
  | .reserved7 => true
  | .resp2 _ => true
  | .cal => true
  | .conf => true
  | .failed => true
  | .presync => true

end Sys2Proof
end

