-- ==== Sys2Proof/Certificates/Slice0/Obligations.lean ====
section
/-! DEFINITION. The statements for the provers, in the order of OBLIGATIONS.json: encodings; the step; reset; the
accepting step of each request row; the byte rows; the sequencer's states; whole-machine rules; invariants; runs. -/

open Sys2Proof Sys2Proof.Machine

/-! ## Encodings -/

/-- Decode and encode agree for every instruction whose word names it without its place. -/
def Obligations.DecodeOfEncodeIsTheInstruction : Prop :=
  ∀ i : Instr, i.wf = true → decode (encode i) = .ok i

/-- Decode and encode agree for every instruction, every operand at every value, where the place fixes the format. -/
def Obligations.PlacedWordDecodesToItsInstruction : Prop :=
  ∀ i : Instr, decodeAs i.format (encode i) = .ok i

/-- A byte names a row exactly when it is the encoding of that row, and no byte names two. -/
def Obligations.ByteNamesExactlyTheRowItEncodes : Prop :=
  ∀ (b : Byte) (i : Instr), decodeByte b = .ok i ↔ encode i = .byte b ∧ i.wf = true

/-- A byte is rejected exactly when it has none of the patterns of the opcode table. -/
def Obligations.BytesOfNoPatternAreRejected : Prop :=
  ∀ b : Byte, decodeByte b = .error (.noSuchByte b) ↔
    (b &&& 0xC2 ≠ 0xC0 ∧ b &&& 0xC0 ≠ 0x80 ∧ b &&& 0x81 ≠ 0x00 ∧ b ≠ 0xAA ∧ b ≠ 0x55 ∧ b ≠ 0xFF ∧ b ≠ 0x88)

/-- Whatever stands in the fields an operation does not read, the request word decodes to that operation with the fields
it reads; and no meaning reads the request word itself. -/
def Obligations.UnreadRequestFieldsAreIgnored : Prop :=
  (∀ (inch : BitVec 2) (vref : Vref) (mode : Mode) (pga : Gain) (count hi lo : Byte) (arg : Half),
    decodeRequest (requestWord 0 inch vref.bit mode.bit pga.bit count arg) = .autobaud ∧
    decodeRequest (requestWord 1 inch vref.bit mode.bit pga.bit count arg) = .pack pga mode vref inch ∧
    decodeRequest (requestWord 2 inch vref.bit mode.bit pga.bit count (hi ++ lo)) = .sendcmd lo ∧
    decodeRequest (requestWord 3 inch vref.bit mode.bit pga.bit count (hi ++ lo)) = .decode lo ∧
    decodeRequest (requestWord 4 inch vref.bit mode.bit pga.bit count (hi ++ lo)) = .decodeos lo count ∧
    decodeRequest (requestWord 5 inch vref.bit mode.bit pga.bit count arg) = .revbits arg ∧
    decodeRequest (requestWord 6 inch vref.bit mode.bit pga.bit count arg) = .reserved6 ∧
    decodeRequest (requestWord 7 inch vref.bit mode.bit pga.bit count arg) = .reserved7) ∧
  (∀ (i : Instr) (s : State) (w : ReqWord),
    sameApartFromPorts (exec i { s with inp := { s.inp with req := w } }) (exec i s))

/-- A few words written out in the spec (R108, R154, 95_test_vectors.md) decode to what they stand for. -/
def Obligations.SpecWordsDecode : Prop :=
  decodeTableWord 32 0x00000000 = some .autobaud ∧
  decodeTableWord 32 0x35FFFFFF = some (.pack .one .single .external 2) ∧
  decodeTableWord 32 0x2A000000 = some (.pack .half .stream .vdd 1) ∧
  decodeTableWord 32 0x5FFFFFD1 = some (.sendcmd 0xD1) ∧
  decodeTableWord 32 0x600000D4 = some (.decode 0xD4) ∧
  decodeTableWord 32 0x800400D4 = some (.decodeos 0xD4 4) ∧
  decodeTableWord 32 0xBFFF9A6A = some (.revbits 0x9A6A) ∧
  decodeTableWord 8 0xE9 = some (.cmd 2 .external .single .one) ∧
  decodeTableWord 8 0x9A = some (.resp1 1 0xA) ∧
  decodeTableWord 8 0x6A = some (.resp2 0x35) ∧
  decodeTableWord 8 0x55 = some .conf

/-- The 24 command bytes of R98 are exactly the bytes of the fields in their domains, each the bitwise OR of R97. -/
def Obligations.CommandBytesAreTheTwentyFour : Prop :=
  (∀ (pga : Gain) (mode : Mode) (vref : Vref) (inch : BitVec 2),
    packByte pga mode vref inch = cmdByte inch vref mode pga) ∧
  ∀ c : Byte, (∃ pga mode vref inch, (Instr.pack pga mode vref inch).inDomain = true ∧ packByte pga mode vref inch = c) ↔
    c ∈ ([0xC0, 0xC1, 0xC4, 0xC5, 0xC8, 0xC9, 0xCC, 0xCD, 0xD0, 0xD1, 0xD4, 0xD5, 0xD8, 0xD9, 0xDC, 0xDD,
      0xE0, 0xE1, 0xE4, 0xE5, 0xE8, 0xE9, 0xEC, 0xED] : List Byte)

/-! ## The step -/

/-- A step that presents a request runs the instruction its word decodes to, on the state its rules read: inputs sampled,
then the other agents' accesses to the streams (in this order: log 10). -/
def Obligations.StepRunsTheDecodedRequest : Prop :=
  ∀ s : State,
    (s.seen.inp.rst = false → s.sample.hostIntrudes = false → s.seen.inp.opStart = true →
      step s = exec s.request s.seen) ∧
    (s.Accepts → step s = exec s.request s.seen)

/-- A step in which one byte of the opcode table arrives, and nothing else is presented, runs that byte's row. -/
def Obligations.StepRunsTheArrivingByteRow : Prop :=
  ∀ (s : State) (b : Byte) (i : Instr),
    s.sample.inp.rst = false → s.sample.inp.opStart = false → s.sample.inp.hostActive = false →
    s.sample.inp.arrivals = [b] → decode (.byte b) = .ok i →
    step s = exec i s.sample

/-- The word that `withFetchWord` places is the one the next step runs, from every state, on the streams as they were. -/
def Obligations.PlacedWordIsRunByTheNextStep : Prop :=
  (∀ (s u : State) (w : ReqWord), u = s.withFetchWord 32 w.toNat →
    step u = exec (decodeRequest w) u.seen ∧ u.seen.fsm = .idle ∧ u.seen.rx = s.rx ∧ u.seen.tx = s.tx) ∧
  (∀ (s u : State) (b : Byte) (i : Instr), decodeByte b = .ok i → u = s.withFetchWord 8 b.toNat →
    step u = exec i u.sample ∧ u.sample.fsm = s.fsm ∧ u.sample.rx = s.rx ∧ u.sample.tx = s.tx)

/-- Where no request can be accepted, the step is the sequencer's: no start, or a start while busy; on the state its
rules read, the other agents' accesses done first (log 10). -/
def Obligations.StepWithoutAcceptanceIsTheSequencers : Prop :=
  ∀ s : State, s.seen.inp.rst = false → s.sample.hostIntrudes = false →
    (s.seen.inp.opStart = false ∨ s.fsm ≠ .idle) → step s = advance s.seen

/-- The one refusal: the host's use of the transport in an `HS_*` or `CT_*` state, in a step without reset (log 9). -/
def Obligations.OnlyHostIntrusionIsRefused : Prop :=
  ∀ s : State, (∃ r, step s = .refused r) ↔
    (s.sample.inp.rst = false ∧ s.fsm ∈ [Fsm.hsTx0, .hsRx, .hsTxm, .hsTxa, .ctTx, .ctRx] ∧
      (s.sample.inp.hostTakes ≠ 0 ∨ s.sample.inp.hostSends ≠ []))

/-! ## Reset -/

/-- A step with `rst = 1` gives every register its reset value, whatever else is on the ports, and the core itself sends
and reads nothing (R40, R240). That the other agents' accesses to the streams still happen in that step, in the order of
log 10, and that the reset is taken and not refused where the host is on the transport in an `HS_*` or `CT_*` state, is
the model's choice (log 9). -/
def Obligations.ResetStepResetsEveryRegister : Prop :=
  ∀ s : State, s.seen.inp.rst = true →
    step s = .next { s.seen with
      fsm := .idle, rxConf := false, cfConf := false, iter := 0, tries := 0, poll := 0, cmdLat := 0, acc := 0, succ := 0,
      rem := 0, lastCh := 0, resCmd := 0, resWord := 0, resChannel := 0, resValue := 0, resFailed := false,
      status := .ok, done := false }

/-- The state after reset holds the table's reset values (R20): sequencer, flags and status by name, the rest 0. -/
def Obligations.ResetStateHoldsTheTableValues : Prop :=
  fsmCode State.reset.fsm = 0 ∧ statusCode State.reset.status = 0 ∧ State.reset.busy = false ∧
  State.reset.sendByte = false ∧ State.reset.readByte = false ∧
  [State.reset.rxConf, State.reset.cfConf, State.reset.resFailed, State.reset.done] = [false, false, false, false] ∧
  [State.reset.iter, State.reset.tries, State.reset.poll, State.reset.resWord, State.reset.resValue] = [0, 0, 0, 0, 0] ∧
  [State.reset.cmdLat, State.reset.succ, State.reset.rem, State.reset.lastCh, State.reset.resCmd, State.reset.resChannel] =
    [0, 0, 0, 0, 0, 0] ∧
  State.reset.acc = 0

/-! ## The accepting step of each request row -/

/-- AUTOBAUD in `IDLE`: both flags and the counters cleared, `HS_TX0` next, all else kept. -/
def Obligations.AutobaudIsAccepted : Prop :=
  ∀ s : State, s.fsm = .idle →
    exec .autobaud s =
      .next { s with rxConf := false, cfConf := false, iter := 0, poll := 0, fsm := .hsTx0, done := false }

/-- PACK in `IDLE` completes with the command byte of its fields, bit by bit, and changes nothing else. -/
def Obligations.PackBuildsTheCommandByte : Prop :=
  ∀ (pga : Gain) (mode : Mode) (vref : Vref) (inch : BitVec 2) (s : State), s.fsm = .idle →
    ∃ c : Byte,
      exec (.pack pga mode vref inch) s = .next { s with resCmd := c, status := .ok, done := true, fsm := .idle } ∧
      c = 0xC0 ||| (inch.setWidth 8 <<< 4) ||| (vref.bit.setWidth 8 <<< 3) ||| (mode.bit.setWidth 8 <<< 2) |||
        pga.bit.setWidth 8 ∧
      c.extractLsb' 6 2 = 3 ∧ c.extractLsb' 4 2 = inch ∧ c.extractLsb' 3 1 = vref.bit ∧ c.extractLsb' 2 1 = mode.bit ∧
      c.extractLsb' 1 1 = 0 ∧ c.extractLsb' 0 1 = pga.bit

/-- SENDCMD in `IDLE`: the command is latched, the counters cleared, `CT_TX` next, all else kept. -/
def Obligations.SendcmdIsAccepted : Prop :=
  ∀ (cmd : Byte) (s : State), s.fsm = .idle →
    exec (.sendcmd cmd) s = .next { s with cmdLat := cmd, tries := 0, poll := 0, fsm := .ctTx, done := false }

/-- DECODE in `IDLE` completes with `OK`, decoded or failed, and writes the three result registers and nothing else. -/
def Obligations.DecodeWritesTheReading : Prop :=
  ∀ (cmd : Byte) (s : State), s.fsm = .idle →
    exec (.decode cmd) s =
      if s.inp.pkt.extractLsb' 16 8 = cmd then
        .next { s with
          resChannel := (s.inp.pkt.extractLsb' 8 8 &&& 0x30) >>> 4,
          resValue := ((((s.inp.pkt.extractLsb' 8 8).setWidth 16 <<< 7) ||| (s.inp.pkt.extractLsb' 0 8).setWidth 16) &&&
            0x07FE) >>> 1,
          resFailed := false, status := .ok, done := true, fsm := .idle }
      else
        .next { s with resChannel := 0xFF, resValue := 0x00FF, resFailed := true, status := .ok, done := true, fsm := .idle }

/-- A matching DECODE, bit by bit: the channel is `b1[5:4]`, the value `b1[3:1]`, `b1[0] | b2[7]`, `b2[6:1]`. -/
def Obligations.DecodeBitByBit : Prop :=
  ∀ (b0 b1 b2 : Byte) (s : State), s.fsm = .idle → s.inp.pkt = b0 ++ b1 ++ b2 →
    ∃ t : State, exec (.decode b0) s = .next t ∧
      t.resChannel.extractLsb' 0 2 = b1.extractLsb' 4 2 ∧ t.resChannel.extractLsb' 2 6 = 0 ∧
      t.resValue.extractLsb' 7 3 = b1.extractLsb' 1 3 ∧ t.resValue.getLsbD 6 = (b1.getLsbD 0 || b2.getLsbD 7) ∧
      t.resValue.extractLsb' 0 6 = b2.extractLsb' 1 6 ∧ t.resValue.extractLsb' 10 6 = 0 ∧ t.resFailed = false ∧
      (b2.getLsbD 7 = false → t.resValue = (0 : BitVec 6) ++ b1.extractLsb' 0 4 ++ b2.extractLsb' 1 6)

/-- Round trip: a packet built from a channel and a reading decodes to exactly that channel and reading. -/
def Obligations.DecodeRecoversEveryReading : Prop :=
  ∀ (k : Byte) (c : BitVec 2) (r : BitVec 10) (s : State), s.fsm = .idle → s.inp.pkt = packetOf k c r →
    exec (.decode k) s =
      .next { s with
        resChannel := c.setWidth 8, resValue := r.setWidth 16, resFailed := false, status := .ok, done := true, fsm := .idle }

/-- A mismatching byte 0 yields the sentinel in both fields whatever the data bytes; only a failure yields the channel
`0xFF` or the flag; the value `0x00FF` is also a valid reading's. -/
def Obligations.EchoMismatchYieldsTheSentinel : Prop :=
  ∀ (k b0 b1 b2 : Byte) (s : State), s.fsm = .idle → s.inp.pkt = b0 ++ b1 ++ b2 →
    (b0 ≠ k → exec (.decode k) s =
      .next { s with resChannel := 0xFF, resValue := 0x00FF, resFailed := true, status := .ok, done := true, fsm := .idle }) ∧
    (b0 = k → ∃ t : State, exec (.decode k) s = .next t ∧ t.resFailed = false ∧ t.resChannel ≠ 0xFF ∧
      (b1 = 0x83 → b2 = 0x7E → t.resValue = 0x00FF))

/-- DECODEOS in `IDLE`: command and count latched, the sum cleared, the channel `0xFF`, and `OS_FIN` at once when there
is nothing to sample. -/
def Obligations.DecodeosIsAccepted : Prop :=
  ∀ (cmd count : Byte) (s : State), s.fsm = .idle →
    exec (.decodeos cmd count) s =
      .next { s with
        cmdLat := cmd, rem := count, acc := 0, succ := 0, lastCh := 0xFF, fsm := if count = 0 then .osFin else .osRun, done := false }

/-- REVBITS in `IDLE` completes with bit `i` of the result equal to bit `15 - i` of the operand, and changes nothing else. -/
def Obligations.RevbitsMirrorsTheWord : Prop :=
  ∀ (arg : Half) (s : State), s.fsm = .idle →
    ∃ w : Half, exec (.revbits arg) s = .next { s with resWord := w, status := .ok, done := true, fsm := .idle } ∧
      ∀ i : Nat, i < 16 → w.getLsbD i = arg.getLsbD (15 - i)

/-- Reversing twice gives the word back. -/
def Obligations.RevbitsTwiceIsTheWord : Prop :=
  ∀ (arg : Half) (s t : State), s.fsm = .idle → exec (.revbits arg) s = .next t →
    ∃ u : State, exec (.revbits t.resWord) t = .next u ∧ u.resWord = arg

/-- The reserved codes in `IDLE` complete at once with `ILLEGAL_OP` and change nothing else. -/
def Obligations.ReservedCodesRaiseIllegalOp : Prop :=
  ∀ s : State, s.fsm = .idle →
    exec .reserved6 s = .next { s with status := .illegalOp, done := true, fsm := .idle } ∧
    exec .reserved7 s = .next { s with status := .illegalOp, done := true, fsm := .idle }

/-- Any request presented while the core is busy is lost: the step is the one the sequencer takes without it. -/
def Obligations.RequestWhileBusyIsLost : Prop :=
  ∀ (i : Instr) (s : State), i.format = .req → s.fsm ≠ .idle → exec i s = advance s

/-! ## The byte rows (what a byte's arrival does; log 6) -/

/-- In `IDLE` every byte row completes: the byte joins `RX`, `done` falls, nothing else changes. -/
def Obligations.ByteRowsJoinTheReceiveStream : Prop :=
  ∀ (inch : BitVec 2) (vref : Vref) (mode : Mode) (pga : Gain) (d : BitVec 4) (e : BitVec 6) (s : State), s.fsm = .idle →
    exec (.cmd inch vref mode pga) s = .next { s with rx := s.rx ++ [cmdByte inch vref mode pga], done := false } ∧
    exec (.resp1 inch d) s = .next { s with rx := s.rx ++ [resp1Byte inch d], done := false } ∧
    exec (.resp2 e) s = .next { s with rx := s.rx ++ [resp2Byte e], done := false } ∧
    exec .cal s = .next { s with rx := s.rx ++ [0xAA], done := false } ∧
    exec .conf s = .next { s with rx := s.rx ++ [0x55], done := false } ∧
    exec .failed s = .next { s with rx := s.rx ++ [0xFF], done := false } ∧
    exec .presync s = .next { s with rx := s.rx ++ [0x88], done := false }

/-- In every state with a named `fsm` every byte row completes: exactly the receive states take one byte, the oldest. -/
def Obligations.ByteRowsCompleteInEveryNamedState : Prop :=
  ∀ (i : Instr) (b : Byte) (s : State), encode i = .byte b → fsmAssigned s.fsm = true →
    ∃ t : State, exec i s = .next t ∧
      t.rx = if fsmReceives s.fsm then (s.rx ++ [b]).tail else s.rx ++ [b]

/-- The confirmation byte arriving in `HS_RX` with nothing before it: first stage, or second stage and the end. -/
def Obligations.ConfirmationByteAdvancesTheHandshake : Prop :=
  ∀ s : State, s.fsm = .hsRx → s.rx = [] →
    exec .conf s =
      if s.rxConf = false then
        .next { s with iter := s.iter + 1, poll := 0, rxConf := true, fsm := .hsTxa, done := false }
      else if s.params.calAfterFinal = true then
        .next { s with iter := s.iter + 1, poll := 0, cfConf := true, fsm := .hsTxa, done := false }
      else
        .next { s with iter := s.iter + 1, poll := 0, cfConf := true, status := .ok, done := true, fsm := .idle }

/-- Every other byte row arriving in `HS_RX` with nothing before it clears both flags and restarts the ramp. -/
def Obligations.OtherByteRowsRestartTheRamp : Prop :=
  ∀ (i : Instr) (b : Byte) (s : State), encode i = .byte b → i ≠ .conf → s.fsm = .hsRx → s.rx = [] →
    exec i s =
      .next { s with iter := s.iter + 1, poll := 0, rxConf := false, cfConf := false, fsm := .hsTxm, done := false }

/-- A command byte arriving in `CT_RX` with nothing before it: the echo, or a mismatch. -/
def Obligations.CommandByteIsTheEcho : Prop :=
  ∀ (inch : BitVec 2) (vref : Vref) (mode : Mode) (pga : Gain) (s : State), s.fsm = .ctRx → s.rx = [] →
    exec (.cmd inch vref mode pga) s =
      if cmdByte inch vref mode pga = s.cmdLat then .next { s with poll := 0, status := .ok, done := true, fsm := .idle }
      else if s.tries = s.params.echoMax then
        .next { s with poll := 0, status := .echoTimeout, done := true, fsm := .idle }
      else .next { s with poll := 0, fsm := .ctTx, done := false }

/-! ## The sequencer's states -/

/-- `IDLE` without a request: nothing but `done <- 0`. -/
def Obligations.IdleHolds : Prop :=
  ∀ s : State, s.fsm = .idle → advance s = .next { s with done := false }

/-- The poll bound, in each of the six wait states, when the awaited readiness is absent. -/
def Obligations.PollBoundEndsAWait : Prop :=
  ∀ s : State, (s.fsm ∈ [Fsm.hsTx0, .hsTxm, .hsTxa, .ctTx] ∧ s.inp.transmitReady = false) ∨
      (s.fsm ∈ [Fsm.hsRx, .ctRx] ∧ s.rx = []) →
    advance s =
      if s.params.pollMax ≠ 0 ∧ s.poll = s.params.pollMax - 1 then
        .next { s with
          status := (if s.fsm ∈ [Fsm.ctTx, .ctRx] then .echoTimeout else .hsTimeout), done := true, fsm := .idle }
      else if s.params.pollMax ≠ 0 then .next { s with poll := s.poll + 1, done := false }
      else .next { s with done := false }

/-- `HS_TX0` and `HS_TXM`: one calibration byte is sent where the transport is ready, else the wait's own step. -/
def Obligations.CalibrationByteIsSent : Prop :=
  ∀ s : State,
    (s.fsm = .hsTx0 → advance s =
      if s.inp.transmitReady then .next { s with tx := s.tx ++ [0xAA], poll := 0, fsm := .hsRx, done := false }
      else .next (s.pollWait .hsTimeout)) ∧
    (s.fsm = .hsTxm → advance s =
      if s.inp.transmitReady then .next { s with tx := s.tx ++ [0xAA], poll := 0, fsm := .hsTxa, done := false }
      else .next (s.pollWait .hsTimeout))

/-- `HS_RX`, byte available and equal to `CONF`. -/
def Obligations.HandshakeMatchBranch : Prop :=
  ∀ (s : State) (rest : List Byte), s.fsm = .hsRx → s.rx = 0x55 :: rest →
    (s.rxConf = false → advance s =
      .next { s with rx := rest, iter := s.iter + 1, poll := 0, rxConf := true, fsm := .hsTxa, done := false }) ∧
    (s.rxConf = true → s.params.calAfterFinal = true → advance s =
      .next { s with rx := rest, iter := s.iter + 1, poll := 0, cfConf := true, fsm := .hsTxa, done := false }) ∧
    (s.rxConf = true → s.params.calAfterFinal = false → advance s =
      .next { s with rx := rest, iter := s.iter + 1, poll := 0, cfConf := true, status := .ok, done := true, fsm := .idle })

/-- `HS_RX`, byte available and not equal to `CONF`. -/
def Obligations.HandshakeMismatchBranch : Prop :=
  ∀ (s : State) (b : Byte) (rest : List Byte), s.fsm = .hsRx → s.rx = b :: rest → b ≠ 0x55 →
    advance s = .next { s with
      rx := rest, iter := s.iter + 1, poll := 0, rxConf := false, cfConf := false, fsm := .hsTxm, done := false }

/-- `HS_TXA`: the wait's own step where the transport is not ready; else the send, then success, then the iteration
bound, then the next iteration. -/
def Obligations.HandshakeIterationEnds : Prop :=
  ∀ s : State, s.fsm = .hsTxa →
    advance s =
      if s.inp.transmitReady = false then .next (s.pollWait .hsTimeout)
      else if s.rxConf = true ∧ s.cfConf = true then
        .next { s with tx := s.tx ++ [0xAA], poll := 0, status := .ok, done := true, fsm := .idle }
      else if s.iter = s.params.hsMax then
        .next { s with tx := s.tx ++ [0xAA], poll := 0, status := .hsTimeout, done := true, fsm := .idle }
      else .next { s with tx := s.tx ++ [0xAA], poll := 0, fsm := .hsRx, done := false }

/-- `CT_TX`: the latched command byte is sent and counted where the transport is ready, else the wait's own step. -/
def Obligations.CommandByteIsSent : Prop :=
  ∀ s : State, s.fsm = .ctTx →
    advance s =
      if s.inp.transmitReady then
        .next { s with tx := s.tx ++ [s.cmdLat], tries := s.tries + 1, poll := 0, fsm := .ctRx, done := false }
      else .next (s.pollWait .echoTimeout)

/-- `CT_RX`, byte available: a match completes, a mismatch retransmits up to the bound. -/
def Obligations.EchoIsValidated : Prop :=
  ∀ (s : State) (b : Byte) (rest : List Byte), s.fsm = .ctRx → s.rx = b :: rest →
    (b = s.cmdLat → advance s = .next { s with rx := rest, poll := 0, status := .ok, done := true, fsm := .idle }) ∧
    (b ≠ s.cmdLat → s.tries = s.params.echoMax →
      advance s = .next { s with rx := rest, poll := 0, status := .echoTimeout, done := true, fsm := .idle }) ∧
    (b ≠ s.cmdLat → s.tries ≠ s.params.echoMax →
      advance s = .next { s with rx := rest, poll := 0, fsm := .ctTx, done := false })

/-- `OS_RUN`: one attempt where a packet is presented, counted or not (R182); nothing where none is. -/
def Obligations.OversampleAttempt : Prop :=
  ∀ s : State, s.fsm = .osRun →
    (s.inp.pktValid = false → advance s = .next { s with done := false }) ∧
    (s.inp.pktValid = true → ∃ r : Reading, r = decPacket s.inp.pkt s.cmdLat ∧
      (((if s.params.osExcludeByValue then r.value ≠ 0x00FF else r.failed = false) →
        advance s = .next { s with
          lastCh := r.channel, acc := s.acc + r.value.setWidth 18, succ := s.succ + 1, rem := s.rem - 1,
          fsm := if s.rem = 1 then .osFin else .osRun, done := false }) ∧
      (¬(if s.params.osExcludeByValue then r.value ≠ 0x00FF else r.failed = false) →
        advance s = .next { s with
          lastCh := r.channel, rem := s.rem - 1, fsm := if s.rem = 1 then .osFin else .osRun, done := false })))

/-- `OS_FIN`, one step: the sentinel when nothing was counted, else the truncated mean; `OK` in every case. -/
def Obligations.OversampleResult : Prop :=
  ∀ s : State, s.fsm = .osFin → s.acc.toNat ≤ 1023 * s.succ.toNat →
    (s.succ = 0 → advance s = .next { s with
      resChannel := 0xFF, resValue := 0x00FF, resFailed := true, status := .ok, done := true, fsm := .idle }) ∧
    (s.succ ≠ 0 → advance s = .next { s with
      resChannel := s.lastCh, resValue := BitVec.ofNat 16 (s.acc.toNat / s.succ.toNat), resFailed := false,
      status := .ok, done := true, fsm := .idle } ∧ s.acc.toNat / s.succ.toNat ≤ 1023)

/-! ## Whole-machine rules -/

/-- In every step the core's own accesses to the streams are exactly its strobes: one byte sent, one read, or neither. That
they come after the other agents' accesses of the step is the model's order (log 10), in a reset step with the host on the
transport in an `HS_*` or `CT_*` state the model's choice (log 9). -/
def Obligations.StreamsMoveWithTheStrobes : Prop :=
  ∀ s t : State, step s = .next t →
    t.tx = (if s.seen.sendByte then s.seen.tx ++ [s.seen.sendData] else s.seen.tx) ∧
    t.rx = (if s.seen.readByte then s.seen.rx.tail else s.seen.rx) ∧
    (s.seen.sendByte = true → s.seen.readByte = false)

/-- `status` is written only in a completing step, `done` is 1 after exactly those, and a completing step ends in `IDLE`.
A step completes an operation when a busy core reaches `IDLE`, or when it accepts a request of one step. -/
def Obligations.StatusIsWrittenOnlyOnCompletion : Prop :=
  ∀ s t : State, step s = .next t → s.seen.inp.rst = false →
    (t.done = false → t.status = s.status) ∧
    (t.done = true → t.fsm = .idle) ∧
    (t.done = true ↔ (s.fsm ≠ .idle ∧ t.fsm = .idle) ∨ (s.Accepts ∧ s.request.completesAtOnce = true))

/-- No operation raises an error of another family: `HS_TIMEOUT` from `HS_*` states, `ECHO_TIMEOUT` from `CT_*` states,
`ILLEGAL_OP` from an accepted reserved code. -/
def Obligations.ErrorsStayInTheirFamily : Prop :=
  ∀ s t : State, step s = .next t → s.seen.inp.rst = false → t.done = true →
    (t.status = .hsTimeout → s.fsm ∈ [Fsm.hsTx0, .hsRx, .hsTxm, .hsTxa]) ∧
    (t.status = .echoTimeout → s.fsm ∈ [Fsm.ctTx, .ctRx]) ∧
    (t.status = .illegalOp ↔ s.Accepts ∧ (s.request = .reserved6 ∨ s.request = .reserved7))

/-- Each result register is written by its own operations only, the reading by DECODE and the end of DECODEOS. -/
def Obligations.ResultsAreWrittenByTheirOwnOperations : Prop :=
  ∀ s t : State, step s = .next t → s.seen.inp.rst = false →
    (t.resCmd ≠ s.resCmd → s.Accepts ∧ ∃ pga mode vref inch, s.request = .pack pga mode vref inch) ∧
    (t.resWord ≠ s.resWord → s.Accepts ∧ ∃ arg, s.request = .revbits arg) ∧
    (¬(t.resChannel = s.resChannel ∧ t.resValue = s.resValue ∧ t.resFailed = s.resFailed) →
      (s.Accepts ∧ ∃ cmd, s.request = .decode cmd) ∨ s.fsm = .osFin)

/-- The calibration flags and `iter` change only in the accepting step of an AUTOBAUD and where `HS_RX` reads a byte. -/
def Obligations.CalibrationFlagsBelongToTheHandshake : Prop :=
  ∀ s t : State, step s = .next t → s.seen.inp.rst = false →
    ¬(t.rxConf = s.rxConf ∧ t.cfConf = s.cfConf ∧ t.iter = s.iter) →
    (s.Accepts ∧ s.request = .autobaud) ∨ (s.fsm = .hsRx ∧ s.seen.rx ≠ [])

/-- The command latch is written only in the step that accepts a SENDCMD or a DECODEOS, with that command. -/
def Obligations.CommandLatchIsWrittenOnlyAtAcceptance : Prop :=
  ∀ s t : State, step s = .next t → s.seen.inp.rst = false → t.cmdLat ≠ s.cmdLat →
    s.Accepts ∧ (s.request = .sendcmd t.cmdLat ∨ ∃ count, s.request = .decodeos t.cmdLat count)

/-- While the core is busy the operation port does not matter: any `op_start` and any request word give the same step. -/
def Obligations.BusyCoreIgnoresTheOperationPort : Prop :=
  ∀ (s : State) (i : Input) (later : List Input) (start : Bool) (w : ReqWord), s.fsm ≠ .idle →
    sameApartFromPorts (step { s with sched := { i with opStart := start, req := w } :: later })
      (step { s with sched := i :: later })

/-- The packet port does not matter but in the accepting step of a DECODE and in `OS_RUN`. -/
def Obligations.PacketPortIsReadOnlyByDecoders : Prop :=
  ∀ (s : State) (i : Input) (later : List Input) (p : Packet) (v : Bool), s.fsm ≠ .osRun →
    ¬(s.fsm = .idle ∧ i.opStart = true ∧ ∃ cmd, decodeRequest i.req = .decode cmd) →
    sameApartFromPorts (step { s with sched := { i with pkt := p, pktValid := v } :: later })
      (step { s with sched := i :: later })

/-! ## Invariants -/

/-- Every step keeps the invariant, from every state that meets it. -/
def Obligations.StepKeepsTheInvariant : Prop :=
  ∀ s t : State, s.Inv → step s = .next t → t.Inv

/-- The state after reset meets the invariant, whatever the open bounds are. -/
def Obligations.ResetMeetsTheInvariant : Prop := State.reset.Inv

/-- No step faults where `fsm` holds one of its nine values, and the step keeps it so. -/
def Obligations.NamedSequencerStatesNeverFault : Prop :=
  ∀ s : State, fsmAssigned s.fsm = true →
    (∀ r, step s ≠ .fault r) ∧ ∀ t, step s = .next t → fsmAssigned t.fsm = true

/-- In the seven values that no rule produces the sequencer is stuck: without a reset the step has no next state (log 8). -/
def Obligations.UnassignedSequencerStateIsStuck : Prop :=
  ∀ (s : State) (k : Fin 7), s.fsm = .unassigned k → s.seen.inp.rst = false → step s = .fault .fsmUnassigned

/-! ## Runs -/

/-- With `POLL_MAX` not 0 a silent wait ends with the family's timeout in exactly `POLL_MAX` steps, having sent and read
nothing, whatever is on the operation and packet ports. -/
def Obligations.SilentWaitTimesOut : Prop :=
  ∀ (s : State) (silence later : List Input),
    fsmStarves s.fsm s.rx = true → s.params.pollMax ≠ 0 → s.poll = 0 → silence.length = s.params.pollMax.toNat →
    (∀ i ∈ silence, i.silent) → s.sched = silence ++ later →
    ∃ t : State, Host.Core.run Sys2Proof.core silence.length s = .next t ∧
      t.status = fsmTimeout s.fsm ∧ t.done = true ∧ t.fsm = .idle ∧ t.rx = s.rx ∧ t.tx = s.tx ∧
      t.poll = s.params.pollMax - 1

/-- With `POLL_MAX` 0 a silent wait never ends: after any number of silent steps the core still waits. -/
def Obligations.UnboundedWaitNeverCompletes : Prop :=
  ∀ (s : State) (silence later : List Input),
    fsmStarves s.fsm s.rx = true → s.params.pollMax = 0 → (∀ i ∈ silence, i.silent) → s.sched = silence ++ later →
    ∃ t : State, Host.Core.run Sys2Proof.core silence.length s = .next t ∧
      t.fsm = s.fsm ∧ t.rx = s.rx ∧ t.tx = s.tx ∧ t.status = s.status ∧ (silence ≠ [] → t.done = false)

/-- SENDCMD as a whole, transport ready: the first matching echo, within the bound, ends it with `OK`. -/
def Obligations.SendcmdEndsAtTheMatchingEcho : Prop :=
  ∀ (s : State) (start : Input) (polls later : List Input) (cmd : Byte) (wrong rest : List Byte),
    s.fsm = .idle → start.ready → start.opStart = true → decodeRequest start.req = .sendcmd cmd →
    (∀ i ∈ polls, i.ready) → polls.length = 2 * (wrong.length + 1) → s.sched = start :: polls ++ later →
    s.rx = wrong ++ cmd :: rest → (∀ b ∈ wrong, b ≠ cmd) → wrong.length + 1 ≤ s.params.echoMax.toNat →
    ∃ t : State, Host.Core.run Sys2Proof.core (polls.length + 1) s = .next t ∧
      t.status = .ok ∧ t.done = true ∧ t.fsm = .idle ∧ t.tries.toNat = wrong.length + 1 ∧
      t.tx = s.tx ++ List.replicate (wrong.length + 1) cmd ∧ t.rx = rest

/-- SENDCMD as a whole, transport ready: `ECHO_MAX` mismatching echoes end it with `ECHO_TIMEOUT`. -/
def Obligations.SendcmdGivesUpAtTheBound : Prop :=
  ∀ (s : State) (start : Input) (polls later : List Input) (cmd : Byte) (wrong rest : List Byte),
    s.fsm = .idle → start.ready → start.opStart = true → decodeRequest start.req = .sendcmd cmd →
    (∀ i ∈ polls, i.ready) → polls.length = 2 * wrong.length → s.sched = start :: polls ++ later →
    s.rx = wrong ++ rest → (∀ b ∈ wrong, b ≠ cmd) → wrong.length = s.params.echoMax.toNat → s.params.echoMax ≠ 0 →
    ∃ t : State, Host.Core.run Sys2Proof.core (polls.length + 1) s = .next t ∧
      t.status = .echoTimeout ∧ t.done = true ∧ t.fsm = .idle ∧ t.tries = s.params.echoMax ∧
      t.tx = s.tx ++ List.replicate wrong.length cmd ∧ t.rx = rest

/-- AUTOBAUD as a whole, transport ready: it ends with `OK` at the first two consecutive confirmation bytes, within the
bound, having sent `1 + n + m` calibration bytes, or one fewer without `CAL_AFTER_FINAL`. -/
def Obligations.AutobaudEndsAtTheFirstPair : Prop :=
  ∀ (s : State) (start : Input) (polls later : List Input) (before rest : List Byte),
    s.fsm = .idle → start.ready → start.opStart = true → decodeRequest start.req = .autobaud →
    (∀ i ∈ polls, i.ready) → s.sched = start :: polls ++ later →
    s.rx = before ++ 0x55 :: 0x55 :: rest → hasConfPair (before ++ [0x55]) = false →
    before.length + 2 ≤ s.params.hsMax.toNat →
    polls.length = 2 * (before.length + 2) + mismatches before + (if s.params.calAfterFinal then 1 else 0) →
    ∃ t : State, Host.Core.run Sys2Proof.core (polls.length + 1) s = .next t ∧
      t.status = .ok ∧ t.done = true ∧ t.fsm = .idle ∧ t.rxConf = true ∧ t.cfConf = true ∧
      t.iter.toNat = before.length + 2 ∧ t.rx = rest ∧
      t.tx = s.tx ++ List.replicate (before.length + 2 + mismatches before + (if s.params.calAfterFinal then 1 else 0)) 0xAA

/-- AUTOBAUD as a whole, transport ready: `HS_MAX` bytes without a pair end it with `HS_TIMEOUT`, under either setting. -/
def Obligations.AutobaudGivesUpAtTheBound : Prop :=
  ∀ (s : State) (start : Input) (polls later : List Input) (bytes rest : List Byte),
    s.fsm = .idle → start.ready → start.opStart = true → decodeRequest start.req = .autobaud →
    (∀ i ∈ polls, i.ready) → s.sched = start :: polls ++ later →
    s.rx = bytes ++ rest → hasConfPair bytes = false → bytes.length = s.params.hsMax.toNat → s.params.hsMax ≠ 0 →
    polls.length = 1 + 2 * bytes.length + mismatches bytes →
    ∃ t : State, Host.Core.run Sys2Proof.core (polls.length + 1) s = .next t ∧
      t.status = .hsTimeout ∧ t.done = true ∧ t.fsm = .idle ∧ t.cfConf = false ∧
      t.rxConf = (bytes.getLast? == some 0x55) ∧ t.iter = s.params.hsMax ∧ t.rx = rest ∧
      t.tx = s.tx ++ List.replicate (1 + bytes.length + mismatches bytes) 0xAA

/-- DECODEOS as a whole, whatever device and host do to the streams meanwhile (in each step in the order of log 10): the truncated mean of the counted
readings with the channel of the last attempt, or the sentinel when none was counted; the core itself sends and reads
nothing. -/
def Obligations.OversampleIsTheTruncatedMean : Prop :=
  ∀ (s : State) (start last : Input) (ports later : List Input) (cmd count : Byte),
    s.fsm = .idle → start.rst = false → start.opStart = true → decodeRequest start.req = .decodeos cmd count →
    (∀ i ∈ ports, i.rst = false) → last.rst = false → s.sched = start :: ports ++ last :: later →
    (ports.filter (·.pktValid)).length = count.toNat → (∀ i, ports.getLast? = some i → i.pktValid = true) →
    ∃ (t : State) (packets : List Packet) (readings : List Reading),
      packets = (ports.filter (·.pktValid)).map (·.pkt) ∧ readings = countedReadings s.params cmd packets ∧
      Host.Core.run Sys2Proof.core (ports.length + 2) s = .next t ∧
      t.status = .ok ∧ t.done = true ∧ t.fsm = .idle ∧
      (t.rx, t.tx) = streamsWithoutCore (start :: ports ++ [last]) (s.rx, s.tx) ∧
      (readings = [] → t.resChannel = 0xFF ∧ t.resValue = 0x00FF ∧ t.resFailed = true) ∧
      (readings ≠ [] → t.resValue.toNat = sumValues readings / readings.length ∧ t.resFailed = false ∧
        packets.getLast?.map (fun p => (decPacket p cmd).channel) = some t.resChannel)
end

