-- ==== Sys2Proof/Laws/Decode.lean ====
section
/-! SUPPORT. The request word's fields read back from a word laid out field by field (spec 30_encoding.md R91), and the
one-bit fields' own round trips. -/

namespace Sys2Proof

/-- Every field of a word laid out by `requestWord` reads back as it was put in (R91). -/
theorem requestWord_fields (op : BitVec 3) (inch : BitVec 2) (vref mode pga : BitVec 1) (count : Byte) (arg : Half) :
    reqOp (requestWord op inch vref mode pga count arg) = op ∧
    reqInch (requestWord op inch vref mode pga count arg) = inch ∧
    (requestWord op inch vref mode pga count arg).extractLsb' 26 1 = vref ∧
    (requestWord op inch vref mode pga count arg).extractLsb' 25 1 = mode ∧
    (requestWord op inch vref mode pga count arg).extractLsb' 24 1 = pga ∧
    reqCount (requestWord op inch vref mode pga count arg) = count ∧
    reqArg (requestWord op inch vref mode pga count arg) = arg := by
  refine ⟨?_, ?_, ?_, ?_, ?_, ?_, ?_⟩ <;> apply BitVec.eq_of_getLsbD_eq <;> intro i hi <;>
    simp only [reqOp, reqInch, reqCount, reqArg, requestWord, BitVec.getLsbD_extractLsb', BitVec.getLsbD_append]
  all_goals
    (repeat rw [if_neg (by omega)])
    (try rw [if_pos (by omega)])
    simp only [hi, decide_true, Bool.true_and]
    congr 1
    omega

/-- `cmd` is the low byte of `arg` (R91). -/
theorem reqCmd_eq (w : ReqWord) : reqCmd w = (reqArg w).setWidth 8 := by
  apply BitVec.eq_of_getLsbD_eq
  intro i hi
  simp only [reqCmd, reqArg, BitVec.getLsbD_extractLsb', BitVec.getLsbD_setWidth, hi, decide_true, Bool.true_and,
    Nat.zero_add, show i < 16 by omega]

/-- A bit of the word as the one-bit field at its place. -/
theorem getLsbD_eq_extract (w : ReqWord) (i : Nat) : w.getLsbD i = (w.extractLsb' i 1).getLsbD 0 := by
  simp

@[simp] theorem Gain.ofBit_bit (g : Gain) : Gain.ofBit (g.bit.getLsbD 0) = g := by cases g <;> rfl

@[simp] theorem Mode.ofBit_bit (m : Mode) : Mode.ofBit (m.bit.getLsbD 0) = m := by cases m <;> rfl

@[simp] theorem Vref.ofBit_bit (v : Vref) : Vref.ofBit (v.bit.getLsbD 0) = v := by cases v <;> rfl

end Sys2Proof
end

