-- ==== Sys2Proof/Laws/Operands.lean ====
section
/-! SUPPORT. What each pure function of the operations yields, said once (spec 20_memory.md R66, 42_decode.md R172, R173,
R184, 43_revbits.md R201). -/

namespace Sys2Proof.Machine

/-- The three lanes of a packet laid out byte by byte (R66). -/
theorem pkt_lanes (b0 b1 b2 : Byte) :
    pktB0 (b0 ++ b1 ++ b2) = b0 ∧ pktB1 (b0 ++ b1 ++ b2) = b1 ∧ pktB2 (b0 ++ b1 ++ b2) = b2 := by
  refine ⟨?_, ?_, ?_⟩ <;> apply BitVec.eq_of_getLsbD_eq <;> intro i hi <;>
    simp only [pktB0, pktB1, pktB2, BitVec.getLsbD_extractLsb', BitVec.getLsbD_append]
  all_goals
    (repeat rw [if_neg (by omega)])
    (try rw [if_pos (by omega)])
    simp only [hi, decide_true, Bool.true_and]
    congr 1
    omega

/-- A matching decode, field by field. -/
theorem dec_match (b1 b2 k : Byte) :
    dec k b1 b2 k =
      { channel := (b1 &&& 0x30) >>> 4, value := (packetInter b1 b2 &&& 0x07FE) >>> 1, failed := false } := if_pos rfl

/-- A mismatching decode is the failed reading. -/
theorem dec_mismatch {b0 k : Byte} (b1 b2 : Byte) (h : b0 ≠ k) : dec b0 b1 b2 k = failedReading := if_neg h

/-- A bit of a decoded value, from the two data bytes (R173). -/
theorem dec_value_bit (b1 b2 : Byte) (i : Nat) :
    ((packetInter b1 b2 &&& 0x07FE) >>> 1).getLsbD i =
      (decide (i < 10) && ((decide (6 ≤ i) && b1.getLsbD (i - 6)) || b2.getLsbD (i + 1))) := by
  simp only [packetInter, BitVec.getLsbD_ushiftRight, BitVec.getLsbD_and, BitVec.getLsbD_or, BitVec.getLsbD_shiftLeft,
    BitVec.getLsbD_setWidth]
  have m : BitVec.getLsbD (0x07FE : Half) (1 + i) = decide (i < 10) := by
    by_cases h : i < 15
    · interval_cases i <;> rfl
    · rw [BitVec.getLsbD_of_ge _ _ (by omega)]
      simp
      omega
  rw [m]
  by_cases h : i < 10
  · interval_cases i <;> simp [Bool.and_comm]
  · simp [h]

/-- The channels a decode yields (R32, R172). -/
theorem dec_channel (b0 b1 b2 k : Byte) : (dec b0 b1 b2 k).channel.toNat ≤ 3 ∨ (dec b0 b1 b2 k).channel = 0xFF := by
  have h3 : ∀ b : Byte, ((b &&& 0x30) >>> 4).toNat ≤ 3 := by decide
  unfold dec
  split
  · exact .inl (h3 _)
  · exact .inr rfl

/-- The values a decode yields (R32, R172). -/
theorem dec_value (b0 b1 b2 k : Byte) : (dec b0 b1 b2 k).value.toNat ≤ 1023 := by
  unfold dec
  split
  · simp only [BitVec.toNat_ushiftRight, BitVec.toNat_and]
    have : (packetInter b1 b2).toNat &&& (0x07FE : Half).toNat ≤ 0x7FE := Nat.and_le_right
    rw [Nat.shiftRight_eq_div_pow]
    omega
  · decide

/-- A failed decode shows the sentinel in both fields (R175). -/
theorem dec_failed {b0 b1 b2 k : Byte} (h : (dec b0 b1 b2 k).failed = true) : dec b0 b1 b2 k = failedReading := by
  unfold dec at h ⊢
  split at h
  · cases h
  · rw [if_neg ‹_›]

/-- The mean of a bounded sum is a reading a decode could yield (R184, R191). -/
theorem mean_bounds {acc : BitVec 18} {succ : BitVec 8} (lastCh : Byte) (h0 : succ ≠ 0)
    (hb : acc.toNat ≤ 1023 * succ.toNat) :
    (meanReading acc succ lastCh).value.toNat = acc.toNat / succ.toNat ∧ acc.toNat / succ.toNat ≤ 1023 := by
  have hs := succ.isLt
  have hq : acc.toNat / succ.toNat ≤ 1023 := Nat.div_le_of_le_mul (by rw [Nat.mul_comm]; exact hb)
  unfold meanReading
  rw [if_neg h0]
  refine ⟨?_, hq⟩
  simp only [BitVec.toNat_setWidth, BitVec.toNat_udiv, Nat.mod_eq_of_lt (show succ.toNat < 2 ^ 18 by omega)]
  exact Nat.mod_eq_of_lt (by omega)

/-- A bit of the reversed word (R201). -/
theorem revHalf_bit (w : Half) {i : Nat} (h : i < 16) : (revHalf w).getLsbD i = w.getLsbD (15 - i) := by
  rw [revHalf, BitVec.getLsbD_ofBoolListLE]
  interval_cases i <;> rfl

end Sys2Proof.Machine
end

