-- ==== Sys2Proof/Laws/State.lean ====
section
/-! SUPPORT. The small lemmas of the named state updates: one per field per update, true by `rfl`. -/

namespace Sys2Proof.Machine

/-! ## `State.sample` -/

@[simp] theorem State.sample_fsm (s : State) : s.sample.fsm = s.fsm := rfl
@[simp] theorem State.sample_rxConf (s : State) : s.sample.rxConf = s.rxConf := rfl
@[simp] theorem State.sample_cfConf (s : State) : s.sample.cfConf = s.cfConf := rfl
@[simp] theorem State.sample_iter (s : State) : s.sample.iter = s.iter := rfl
@[simp] theorem State.sample_tries (s : State) : s.sample.tries = s.tries := rfl
@[simp] theorem State.sample_poll (s : State) : s.sample.poll = s.poll := rfl
@[simp] theorem State.sample_cmdLat (s : State) : s.sample.cmdLat = s.cmdLat := rfl
@[simp] theorem State.sample_acc (s : State) : s.sample.acc = s.acc := rfl
@[simp] theorem State.sample_succ (s : State) : s.sample.succ = s.succ := rfl
@[simp] theorem State.sample_rem (s : State) : s.sample.rem = s.rem := rfl
@[simp] theorem State.sample_lastCh (s : State) : s.sample.lastCh = s.lastCh := rfl
@[simp] theorem State.sample_resCmd (s : State) : s.sample.resCmd = s.resCmd := rfl
@[simp] theorem State.sample_resWord (s : State) : s.sample.resWord = s.resWord := rfl
@[simp] theorem State.sample_resChannel (s : State) : s.sample.resChannel = s.resChannel := rfl
@[simp] theorem State.sample_resValue (s : State) : s.sample.resValue = s.resValue := rfl
@[simp] theorem State.sample_resFailed (s : State) : s.sample.resFailed = s.resFailed := rfl
@[simp] theorem State.sample_status (s : State) : s.sample.status = s.status := rfl
@[simp] theorem State.sample_done (s : State) : s.sample.done = s.done := rfl
@[simp] theorem State.sample_rx (s : State) : s.sample.rx = s.rx := rfl
@[simp] theorem State.sample_tx (s : State) : s.sample.tx = s.tx := rfl
@[simp] theorem State.sample_params (s : State) : s.sample.params = s.params := rfl
theorem State.sample_inp (s : State) : s.sample.inp = s.sched.headD (Config.input s.tick) := rfl
@[simp] theorem State.sample_sched (s : State) : s.sample.sched = s.sched.tail := rfl
@[simp] theorem State.sample_tick (s : State) : s.sample.tick = s.tick + 1 := rfl

/-! ## `State.deliver` -/

@[simp] theorem State.deliver_fsm (s : State) (bs : List Byte) : (s.deliver bs).fsm = s.fsm := rfl
@[simp] theorem State.deliver_rxConf (s : State) (bs : List Byte) : (s.deliver bs).rxConf = s.rxConf := rfl
@[simp] theorem State.deliver_cfConf (s : State) (bs : List Byte) : (s.deliver bs).cfConf = s.cfConf := rfl
@[simp] theorem State.deliver_iter (s : State) (bs : List Byte) : (s.deliver bs).iter = s.iter := rfl
@[simp] theorem State.deliver_tries (s : State) (bs : List Byte) : (s.deliver bs).tries = s.tries := rfl
@[simp] theorem State.deliver_poll (s : State) (bs : List Byte) : (s.deliver bs).poll = s.poll := rfl
@[simp] theorem State.deliver_cmdLat (s : State) (bs : List Byte) : (s.deliver bs).cmdLat = s.cmdLat := rfl
@[simp] theorem State.deliver_acc (s : State) (bs : List Byte) : (s.deliver bs).acc = s.acc := rfl
@[simp] theorem State.deliver_succ (s : State) (bs : List Byte) : (s.deliver bs).succ = s.succ := rfl
@[simp] theorem State.deliver_rem (s : State) (bs : List Byte) : (s.deliver bs).rem = s.rem := rfl
@[simp] theorem State.deliver_lastCh (s : State) (bs : List Byte) : (s.deliver bs).lastCh = s.lastCh := rfl
@[simp] theorem State.deliver_resCmd (s : State) (bs : List Byte) : (s.deliver bs).resCmd = s.resCmd := rfl
@[simp] theorem State.deliver_resWord (s : State) (bs : List Byte) : (s.deliver bs).resWord = s.resWord := rfl
@[simp] theorem State.deliver_resChannel (s : State) (bs : List Byte) : (s.deliver bs).resChannel = s.resChannel := rfl
@[simp] theorem State.deliver_resValue (s : State) (bs : List Byte) : (s.deliver bs).resValue = s.resValue := rfl
@[simp] theorem State.deliver_resFailed (s : State) (bs : List Byte) : (s.deliver bs).resFailed = s.resFailed := rfl
@[simp] theorem State.deliver_status (s : State) (bs : List Byte) : (s.deliver bs).status = s.status := rfl
@[simp] theorem State.deliver_done (s : State) (bs : List Byte) : (s.deliver bs).done = s.done := rfl
@[simp] theorem State.deliver_rx (s : State) (bs : List Byte) : (s.deliver bs).rx = s.rx ++ bs := rfl
@[simp] theorem State.deliver_tx (s : State) (bs : List Byte) : (s.deliver bs).tx = s.tx := rfl
@[simp] theorem State.deliver_params (s : State) (bs : List Byte) : (s.deliver bs).params = s.params := rfl
@[simp] theorem State.deliver_inp (s : State) (bs : List Byte) : (s.deliver bs).inp = s.inp := rfl
@[simp] theorem State.deliver_sched (s : State) (bs : List Byte) : (s.deliver bs).sched = s.sched := rfl
@[simp] theorem State.deliver_tick (s : State) (bs : List Byte) : (s.deliver bs).tick = s.tick := rfl

/-! ## `State.environment` -/

@[simp] theorem State.environment_fsm (s : State) : s.environment.fsm = s.fsm := rfl
@[simp] theorem State.environment_rxConf (s : State) : s.environment.rxConf = s.rxConf := rfl
@[simp] theorem State.environment_cfConf (s : State) : s.environment.cfConf = s.cfConf := rfl
@[simp] theorem State.environment_iter (s : State) : s.environment.iter = s.iter := rfl
@[simp] theorem State.environment_tries (s : State) : s.environment.tries = s.tries := rfl
@[simp] theorem State.environment_poll (s : State) : s.environment.poll = s.poll := rfl
@[simp] theorem State.environment_cmdLat (s : State) : s.environment.cmdLat = s.cmdLat := rfl
@[simp] theorem State.environment_acc (s : State) : s.environment.acc = s.acc := rfl
@[simp] theorem State.environment_succ (s : State) : s.environment.succ = s.succ := rfl
@[simp] theorem State.environment_rem (s : State) : s.environment.rem = s.rem := rfl
@[simp] theorem State.environment_lastCh (s : State) : s.environment.lastCh = s.lastCh := rfl
@[simp] theorem State.environment_resCmd (s : State) : s.environment.resCmd = s.resCmd := rfl
@[simp] theorem State.environment_resWord (s : State) : s.environment.resWord = s.resWord := rfl
@[simp] theorem State.environment_resChannel (s : State) : s.environment.resChannel = s.resChannel := rfl
@[simp] theorem State.environment_resValue (s : State) : s.environment.resValue = s.resValue := rfl
@[simp] theorem State.environment_resFailed (s : State) : s.environment.resFailed = s.resFailed := rfl
@[simp] theorem State.environment_status (s : State) : s.environment.status = s.status := rfl
@[simp] theorem State.environment_done (s : State) : s.environment.done = s.done := rfl
@[simp] theorem State.environment_rx (s : State) : s.environment.rx = (s.rx ++ s.inp.arrivals).drop s.inp.hostTakes := rfl
@[simp] theorem State.environment_tx (s : State) : s.environment.tx = s.tx ++ s.inp.hostSends := rfl
@[simp] theorem State.environment_params (s : State) : s.environment.params = s.params := rfl
@[simp] theorem State.environment_inp (s : State) : s.environment.inp = s.inp := rfl
@[simp] theorem State.environment_sched (s : State) : s.environment.sched = s.sched := rfl
@[simp] theorem State.environment_tick (s : State) : s.environment.tick = s.tick := rfl

/-! ## `State.send` -/

@[simp] theorem State.send_fsm (s : State) (b : Byte) : (s.send b).fsm = s.fsm := rfl
@[simp] theorem State.send_rxConf (s : State) (b : Byte) : (s.send b).rxConf = s.rxConf := rfl
@[simp] theorem State.send_cfConf (s : State) (b : Byte) : (s.send b).cfConf = s.cfConf := rfl
@[simp] theorem State.send_iter (s : State) (b : Byte) : (s.send b).iter = s.iter := rfl
@[simp] theorem State.send_tries (s : State) (b : Byte) : (s.send b).tries = s.tries := rfl
@[simp] theorem State.send_poll (s : State) (b : Byte) : (s.send b).poll = 0 := rfl
@[simp] theorem State.send_cmdLat (s : State) (b : Byte) : (s.send b).cmdLat = s.cmdLat := rfl
@[simp] theorem State.send_acc (s : State) (b : Byte) : (s.send b).acc = s.acc := rfl
@[simp] theorem State.send_succ (s : State) (b : Byte) : (s.send b).succ = s.succ := rfl
@[simp] theorem State.send_rem (s : State) (b : Byte) : (s.send b).rem = s.rem := rfl
@[simp] theorem State.send_lastCh (s : State) (b : Byte) : (s.send b).lastCh = s.lastCh := rfl
@[simp] theorem State.send_resCmd (s : State) (b : Byte) : (s.send b).resCmd = s.resCmd := rfl
@[simp] theorem State.send_resWord (s : State) (b : Byte) : (s.send b).resWord = s.resWord := rfl
@[simp] theorem State.send_resChannel (s : State) (b : Byte) : (s.send b).resChannel = s.resChannel := rfl
@[simp] theorem State.send_resValue (s : State) (b : Byte) : (s.send b).resValue = s.resValue := rfl
@[simp] theorem State.send_resFailed (s : State) (b : Byte) : (s.send b).resFailed = s.resFailed := rfl
@[simp] theorem State.send_status (s : State) (b : Byte) : (s.send b).status = s.status := rfl
@[simp] theorem State.send_done (s : State) (b : Byte) : (s.send b).done = s.done := rfl
@[simp] theorem State.send_rx (s : State) (b : Byte) : (s.send b).rx = s.rx := rfl
@[simp] theorem State.send_tx (s : State) (b : Byte) : (s.send b).tx = s.tx ++ [b] := rfl
@[simp] theorem State.send_params (s : State) (b : Byte) : (s.send b).params = s.params := rfl
@[simp] theorem State.send_inp (s : State) (b : Byte) : (s.send b).inp = s.inp := rfl
@[simp] theorem State.send_sched (s : State) (b : Byte) : (s.send b).sched = s.sched := rfl
@[simp] theorem State.send_tick (s : State) (b : Byte) : (s.send b).tick = s.tick := rfl

/-! ## `State.consume` -/

@[simp] theorem State.consume_fsm (s : State) : s.consume.fsm = s.fsm := rfl
@[simp] theorem State.consume_rxConf (s : State) : s.consume.rxConf = s.rxConf := rfl
@[simp] theorem State.consume_cfConf (s : State) : s.consume.cfConf = s.cfConf := rfl
@[simp] theorem State.consume_iter (s : State) : s.consume.iter = s.iter := rfl
@[simp] theorem State.consume_tries (s : State) : s.consume.tries = s.tries := rfl
@[simp] theorem State.consume_poll (s : State) : s.consume.poll = 0 := rfl
@[simp] theorem State.consume_cmdLat (s : State) : s.consume.cmdLat = s.cmdLat := rfl
@[simp] theorem State.consume_acc (s : State) : s.consume.acc = s.acc := rfl
@[simp] theorem State.consume_succ (s : State) : s.consume.succ = s.succ := rfl
@[simp] theorem State.consume_rem (s : State) : s.consume.rem = s.rem := rfl
@[simp] theorem State.consume_lastCh (s : State) : s.consume.lastCh = s.lastCh := rfl
@[simp] theorem State.consume_resCmd (s : State) : s.consume.resCmd = s.resCmd := rfl
@[simp] theorem State.consume_resWord (s : State) : s.consume.resWord = s.resWord := rfl
@[simp] theorem State.consume_resChannel (s : State) : s.consume.resChannel = s.resChannel := rfl
@[simp] theorem State.consume_resValue (s : State) : s.consume.resValue = s.resValue := rfl
@[simp] theorem State.consume_resFailed (s : State) : s.consume.resFailed = s.resFailed := rfl
@[simp] theorem State.consume_status (s : State) : s.consume.status = s.status := rfl
@[simp] theorem State.consume_done (s : State) : s.consume.done = s.done := rfl
@[simp] theorem State.consume_rx (s : State) : s.consume.rx = s.rx.tail := rfl
@[simp] theorem State.consume_tx (s : State) : s.consume.tx = s.tx := rfl
@[simp] theorem State.consume_params (s : State) : s.consume.params = s.params := rfl
@[simp] theorem State.consume_inp (s : State) : s.consume.inp = s.inp := rfl
@[simp] theorem State.consume_sched (s : State) : s.consume.sched = s.sched := rfl
@[simp] theorem State.consume_tick (s : State) : s.consume.tick = s.tick := rfl

/-! ## `State.hold` -/

@[simp] theorem State.hold_fsm (s : State) : s.hold.fsm = s.fsm := rfl
@[simp] theorem State.hold_rxConf (s : State) : s.hold.rxConf = s.rxConf := rfl
@[simp] theorem State.hold_cfConf (s : State) : s.hold.cfConf = s.cfConf := rfl
@[simp] theorem State.hold_iter (s : State) : s.hold.iter = s.iter := rfl
@[simp] theorem State.hold_tries (s : State) : s.hold.tries = s.tries := rfl
@[simp] theorem State.hold_poll (s : State) : s.hold.poll = s.poll := rfl
@[simp] theorem State.hold_cmdLat (s : State) : s.hold.cmdLat = s.cmdLat := rfl
@[simp] theorem State.hold_acc (s : State) : s.hold.acc = s.acc := rfl
@[simp] theorem State.hold_succ (s : State) : s.hold.succ = s.succ := rfl
@[simp] theorem State.hold_rem (s : State) : s.hold.rem = s.rem := rfl
@[simp] theorem State.hold_lastCh (s : State) : s.hold.lastCh = s.lastCh := rfl
@[simp] theorem State.hold_resCmd (s : State) : s.hold.resCmd = s.resCmd := rfl
@[simp] theorem State.hold_resWord (s : State) : s.hold.resWord = s.resWord := rfl
@[simp] theorem State.hold_resChannel (s : State) : s.hold.resChannel = s.resChannel := rfl
@[simp] theorem State.hold_resValue (s : State) : s.hold.resValue = s.resValue := rfl
@[simp] theorem State.hold_resFailed (s : State) : s.hold.resFailed = s.resFailed := rfl
@[simp] theorem State.hold_status (s : State) : s.hold.status = s.status := rfl
@[simp] theorem State.hold_done (s : State) : s.hold.done = false := rfl
@[simp] theorem State.hold_rx (s : State) : s.hold.rx = s.rx := rfl
@[simp] theorem State.hold_tx (s : State) : s.hold.tx = s.tx := rfl
@[simp] theorem State.hold_params (s : State) : s.hold.params = s.params := rfl
@[simp] theorem State.hold_inp (s : State) : s.hold.inp = s.inp := rfl
@[simp] theorem State.hold_sched (s : State) : s.hold.sched = s.sched := rfl
@[simp] theorem State.hold_tick (s : State) : s.hold.tick = s.tick := rfl

/-! ## `State.goto` -/

@[simp] theorem State.goto_fsm (s : State) (f : Fsm) : (s.goto f).fsm = f := rfl
@[simp] theorem State.goto_rxConf (s : State) (f : Fsm) : (s.goto f).rxConf = s.rxConf := rfl
@[simp] theorem State.goto_cfConf (s : State) (f : Fsm) : (s.goto f).cfConf = s.cfConf := rfl
@[simp] theorem State.goto_iter (s : State) (f : Fsm) : (s.goto f).iter = s.iter := rfl
@[simp] theorem State.goto_tries (s : State) (f : Fsm) : (s.goto f).tries = s.tries := rfl
@[simp] theorem State.goto_poll (s : State) (f : Fsm) : (s.goto f).poll = s.poll := rfl
@[simp] theorem State.goto_cmdLat (s : State) (f : Fsm) : (s.goto f).cmdLat = s.cmdLat := rfl
@[simp] theorem State.goto_acc (s : State) (f : Fsm) : (s.goto f).acc = s.acc := rfl
@[simp] theorem State.goto_succ (s : State) (f : Fsm) : (s.goto f).succ = s.succ := rfl
@[simp] theorem State.goto_rem (s : State) (f : Fsm) : (s.goto f).rem = s.rem := rfl
@[simp] theorem State.goto_lastCh (s : State) (f : Fsm) : (s.goto f).lastCh = s.lastCh := rfl
@[simp] theorem State.goto_resCmd (s : State) (f : Fsm) : (s.goto f).resCmd = s.resCmd := rfl
@[simp] theorem State.goto_resWord (s : State) (f : Fsm) : (s.goto f).resWord = s.resWord := rfl
@[simp] theorem State.goto_resChannel (s : State) (f : Fsm) : (s.goto f).resChannel = s.resChannel := rfl
@[simp] theorem State.goto_resValue (s : State) (f : Fsm) : (s.goto f).resValue = s.resValue := rfl
@[simp] theorem State.goto_resFailed (s : State) (f : Fsm) : (s.goto f).resFailed = s.resFailed := rfl
@[simp] theorem State.goto_status (s : State) (f : Fsm) : (s.goto f).status = s.status := rfl
@[simp] theorem State.goto_done (s : State) (f : Fsm) : (s.goto f).done = false := rfl
@[simp] theorem State.goto_rx (s : State) (f : Fsm) : (s.goto f).rx = s.rx := rfl
@[simp] theorem State.goto_tx (s : State) (f : Fsm) : (s.goto f).tx = s.tx := rfl
@[simp] theorem State.goto_params (s : State) (f : Fsm) : (s.goto f).params = s.params := rfl
@[simp] theorem State.goto_inp (s : State) (f : Fsm) : (s.goto f).inp = s.inp := rfl
@[simp] theorem State.goto_sched (s : State) (f : Fsm) : (s.goto f).sched = s.sched := rfl
@[simp] theorem State.goto_tick (s : State) (f : Fsm) : (s.goto f).tick = s.tick := rfl

/-! ## `State.raise` -/

@[simp] theorem State.raise_fsm (s : State) (st : Status) : (s.raise st).fsm = .idle := rfl
@[simp] theorem State.raise_rxConf (s : State) (st : Status) : (s.raise st).rxConf = s.rxConf := rfl
@[simp] theorem State.raise_cfConf (s : State) (st : Status) : (s.raise st).cfConf = s.cfConf := rfl
@[simp] theorem State.raise_iter (s : State) (st : Status) : (s.raise st).iter = s.iter := rfl
@[simp] theorem State.raise_tries (s : State) (st : Status) : (s.raise st).tries = s.tries := rfl
@[simp] theorem State.raise_poll (s : State) (st : Status) : (s.raise st).poll = s.poll := rfl
@[simp] theorem State.raise_cmdLat (s : State) (st : Status) : (s.raise st).cmdLat = s.cmdLat := rfl
@[simp] theorem State.raise_acc (s : State) (st : Status) : (s.raise st).acc = s.acc := rfl
@[simp] theorem State.raise_succ (s : State) (st : Status) : (s.raise st).succ = s.succ := rfl
@[simp] theorem State.raise_rem (s : State) (st : Status) : (s.raise st).rem = s.rem := rfl
@[simp] theorem State.raise_lastCh (s : State) (st : Status) : (s.raise st).lastCh = s.lastCh := rfl
@[simp] theorem State.raise_resCmd (s : State) (st : Status) : (s.raise st).resCmd = s.resCmd := rfl
@[simp] theorem State.raise_resWord (s : State) (st : Status) : (s.raise st).resWord = s.resWord := rfl
@[simp] theorem State.raise_resChannel (s : State) (st : Status) : (s.raise st).resChannel = s.resChannel := rfl
@[simp] theorem State.raise_resValue (s : State) (st : Status) : (s.raise st).resValue = s.resValue := rfl
@[simp] theorem State.raise_resFailed (s : State) (st : Status) : (s.raise st).resFailed = s.resFailed := rfl
@[simp] theorem State.raise_status (s : State) (st : Status) : (s.raise st).status = st := rfl
@[simp] theorem State.raise_done (s : State) (st : Status) : (s.raise st).done = true := rfl
@[simp] theorem State.raise_rx (s : State) (st : Status) : (s.raise st).rx = s.rx := rfl
@[simp] theorem State.raise_tx (s : State) (st : Status) : (s.raise st).tx = s.tx := rfl
@[simp] theorem State.raise_params (s : State) (st : Status) : (s.raise st).params = s.params := rfl
@[simp] theorem State.raise_inp (s : State) (st : Status) : (s.raise st).inp = s.inp := rfl
@[simp] theorem State.raise_sched (s : State) (st : Status) : (s.raise st).sched = s.sched := rfl
@[simp] theorem State.raise_tick (s : State) (st : Status) : (s.raise st).tick = s.tick := rfl

/-! ## `State.complete` -/

@[simp] theorem State.complete_fsm (s : State) : s.complete.fsm = .idle := rfl
@[simp] theorem State.complete_rxConf (s : State) : s.complete.rxConf = s.rxConf := rfl
@[simp] theorem State.complete_cfConf (s : State) : s.complete.cfConf = s.cfConf := rfl
@[simp] theorem State.complete_iter (s : State) : s.complete.iter = s.iter := rfl
@[simp] theorem State.complete_tries (s : State) : s.complete.tries = s.tries := rfl
@[simp] theorem State.complete_poll (s : State) : s.complete.poll = s.poll := rfl
@[simp] theorem State.complete_cmdLat (s : State) : s.complete.cmdLat = s.cmdLat := rfl
@[simp] theorem State.complete_acc (s : State) : s.complete.acc = s.acc := rfl
@[simp] theorem State.complete_succ (s : State) : s.complete.succ = s.succ := rfl
@[simp] theorem State.complete_rem (s : State) : s.complete.rem = s.rem := rfl
@[simp] theorem State.complete_lastCh (s : State) : s.complete.lastCh = s.lastCh := rfl
@[simp] theorem State.complete_resCmd (s : State) : s.complete.resCmd = s.resCmd := rfl
@[simp] theorem State.complete_resWord (s : State) : s.complete.resWord = s.resWord := rfl
@[simp] theorem State.complete_resChannel (s : State) : s.complete.resChannel = s.resChannel := rfl
@[simp] theorem State.complete_resValue (s : State) : s.complete.resValue = s.resValue := rfl
@[simp] theorem State.complete_resFailed (s : State) : s.complete.resFailed = s.resFailed := rfl
@[simp] theorem State.complete_status (s : State) : s.complete.status = .ok := rfl
@[simp] theorem State.complete_done (s : State) : s.complete.done = true := rfl
@[simp] theorem State.complete_rx (s : State) : s.complete.rx = s.rx := rfl
@[simp] theorem State.complete_tx (s : State) : s.complete.tx = s.tx := rfl
@[simp] theorem State.complete_params (s : State) : s.complete.params = s.params := rfl
@[simp] theorem State.complete_inp (s : State) : s.complete.inp = s.inp := rfl
@[simp] theorem State.complete_sched (s : State) : s.complete.sched = s.sched := rfl
@[simp] theorem State.complete_tick (s : State) : s.complete.tick = s.tick := rfl

/-! ## `State.setReading` -/

@[simp] theorem State.setReading_fsm (s : State) (r : Reading) : (s.setReading r).fsm = s.fsm := rfl
@[simp] theorem State.setReading_rxConf (s : State) (r : Reading) : (s.setReading r).rxConf = s.rxConf := rfl
@[simp] theorem State.setReading_cfConf (s : State) (r : Reading) : (s.setReading r).cfConf = s.cfConf := rfl
@[simp] theorem State.setReading_iter (s : State) (r : Reading) : (s.setReading r).iter = s.iter := rfl
@[simp] theorem State.setReading_tries (s : State) (r : Reading) : (s.setReading r).tries = s.tries := rfl
@[simp] theorem State.setReading_poll (s : State) (r : Reading) : (s.setReading r).poll = s.poll := rfl
@[simp] theorem State.setReading_cmdLat (s : State) (r : Reading) : (s.setReading r).cmdLat = s.cmdLat := rfl
@[simp] theorem State.setReading_acc (s : State) (r : Reading) : (s.setReading r).acc = s.acc := rfl
@[simp] theorem State.setReading_succ (s : State) (r : Reading) : (s.setReading r).succ = s.succ := rfl
@[simp] theorem State.setReading_rem (s : State) (r : Reading) : (s.setReading r).rem = s.rem := rfl
@[simp] theorem State.setReading_lastCh (s : State) (r : Reading) : (s.setReading r).lastCh = s.lastCh := rfl
@[simp] theorem State.setReading_resCmd (s : State) (r : Reading) : (s.setReading r).resCmd = s.resCmd := rfl
@[simp] theorem State.setReading_resWord (s : State) (r : Reading) : (s.setReading r).resWord = s.resWord := rfl
@[simp] theorem State.setReading_resChannel (s : State) (r : Reading) : (s.setReading r).resChannel = r.channel := rfl
@[simp] theorem State.setReading_resValue (s : State) (r : Reading) : (s.setReading r).resValue = r.value := rfl
@[simp] theorem State.setReading_resFailed (s : State) (r : Reading) : (s.setReading r).resFailed = r.failed := rfl
@[simp] theorem State.setReading_status (s : State) (r : Reading) : (s.setReading r).status = s.status := rfl
@[simp] theorem State.setReading_done (s : State) (r : Reading) : (s.setReading r).done = s.done := rfl
@[simp] theorem State.setReading_rx (s : State) (r : Reading) : (s.setReading r).rx = s.rx := rfl
@[simp] theorem State.setReading_tx (s : State) (r : Reading) : (s.setReading r).tx = s.tx := rfl
@[simp] theorem State.setReading_params (s : State) (r : Reading) : (s.setReading r).params = s.params := rfl
@[simp] theorem State.setReading_inp (s : State) (r : Reading) : (s.setReading r).inp = s.inp := rfl
@[simp] theorem State.setReading_sched (s : State) (r : Reading) : (s.setReading r).sched = s.sched := rfl
@[simp] theorem State.setReading_tick (s : State) (r : Reading) : (s.setReading r).tick = s.tick := rfl

/-! ## `State.resetCore` -/

@[simp] theorem State.resetCore_fsm (s : State) : s.resetCore.fsm = .idle := rfl
@[simp] theorem State.resetCore_rxConf (s : State) : s.resetCore.rxConf = false := rfl
@[simp] theorem State.resetCore_cfConf (s : State) : s.resetCore.cfConf = false := rfl
@[simp] theorem State.resetCore_iter (s : State) : s.resetCore.iter = 0 := rfl
@[simp] theorem State.resetCore_tries (s : State) : s.resetCore.tries = 0 := rfl
@[simp] theorem State.resetCore_poll (s : State) : s.resetCore.poll = 0 := rfl
@[simp] theorem State.resetCore_cmdLat (s : State) : s.resetCore.cmdLat = 0 := rfl
@[simp] theorem State.resetCore_acc (s : State) : s.resetCore.acc = 0 := rfl
@[simp] theorem State.resetCore_succ (s : State) : s.resetCore.succ = 0 := rfl
@[simp] theorem State.resetCore_rem (s : State) : s.resetCore.rem = 0 := rfl
@[simp] theorem State.resetCore_lastCh (s : State) : s.resetCore.lastCh = 0 := rfl
@[simp] theorem State.resetCore_resCmd (s : State) : s.resetCore.resCmd = 0 := rfl
@[simp] theorem State.resetCore_resWord (s : State) : s.resetCore.resWord = 0 := rfl
@[simp] theorem State.resetCore_resChannel (s : State) : s.resetCore.resChannel = 0 := rfl
@[simp] theorem State.resetCore_resValue (s : State) : s.resetCore.resValue = 0 := rfl
@[simp] theorem State.resetCore_resFailed (s : State) : s.resetCore.resFailed = false := rfl
@[simp] theorem State.resetCore_status (s : State) : s.resetCore.status = .ok := rfl
@[simp] theorem State.resetCore_done (s : State) : s.resetCore.done = false := rfl
@[simp] theorem State.resetCore_rx (s : State) : s.resetCore.rx = s.rx := rfl
@[simp] theorem State.resetCore_tx (s : State) : s.resetCore.tx = s.tx := rfl
@[simp] theorem State.resetCore_params (s : State) : s.resetCore.params = s.params := rfl
@[simp] theorem State.resetCore_inp (s : State) : s.resetCore.inp = s.inp := rfl
@[simp] theorem State.resetCore_sched (s : State) : s.resetCore.sched = s.sched := rfl
@[simp] theorem State.resetCore_tick (s : State) : s.resetCore.tick = s.tick := rfl

end Sys2Proof.Machine
end

