-- ==== Sys2Proof/Laws/Ops.lean ====
section
/-! SUPPORT. What each shared operation can do, said once: the poll bound, the sequencer's step, the presentation of a
request, the arrival of a byte, the step. Later proofs cite these and unfold nothing. -/

namespace Sys2Proof.Machine

/-- Everything a not-ready step can do (R70). -/
theorem pollWait_cases (err : Status) (s : State) :
    (s.params.pollMax = 0 ∧ s.pollWait err = s.hold) ∨
    (s.params.pollMax ≠ 0 ∧ s.poll = s.params.pollMax - 1 ∧ s.pollWait err = s.raise err) ∨
    (s.params.pollMax ≠ 0 ∧ s.poll ≠ s.params.pollMax - 1 ∧
      s.pollWait err = { s with poll := s.poll + 1, done := false }) := by
  unfold State.pollWait
  by_cases h0 : s.params.pollMax = 0
  · exact .inl ⟨h0, if_pos h0⟩
  · by_cases h1 : s.poll = s.params.pollMax - 1
    · exact .inr (.inl ⟨h0, h1, by rw [if_neg h0, if_pos h1]⟩)
    · exact .inr (.inr ⟨h0, h1, by rw [if_neg h0, if_neg h1]⟩)

/-- The rule of the state `fsm` names, as one total function; it is `advance` where `fsm` is assigned. -/
def sequencerStep (s : State) : State :=
  match s.fsm with
  | .idle => s.hold
  | .hsTx0 => stepHsTx0 s
  | .hsRx => stepHsRx s
  | .hsTxm => stepHsTxm s
  | .hsTxa => stepHsTxa s
  | .ctTx => stepCtTx s
  | .ctRx => stepCtRx s
  | .osRun => stepOsRun s
  | .osFin => stepOsFin s
  | .unassigned _ => s

/-- The sequencer stops exactly on an unassigned `fsm` (R22, R23). -/
theorem advance_eq (s : State) :
    advance s = if fsmAssigned s.fsm then .next (sequencerStep s) else .fault .fsmUnassigned := by
  unfold advance sequencerStep
  cases s.fsm <;> rfl

/-- What a next state of the sequencer is. -/
theorem advance_next {s t : State} (h : advance s = .next t) : fsmAssigned s.fsm = true ∧ t = sequencerStep s := by
  rw [advance_eq] at h
  split at h
  · exact ⟨‹_›, (Host.Outcome.next.inj h).symm⟩
  · cases h

/-- The sequencer refuses nothing. -/
theorem advance_ne_refused (s : State) (r : Refusal) : advance s ≠ .refused r := by
  rw [advance_eq]
  split <;> simp

/-- A request presented in `IDLE` is accepted (R92). -/
@[simp] theorem present_idle {s : State} (h : s.fsm = .idle) (f : State → State) : present f s = .next (f s) := if_pos h

/-- A request presented while busy is lost (R92). -/
@[simp] theorem present_busy {s : State} (h : s.fsm ≠ .idle) (f : State → State) : present f s = advance s := if_neg h

/-- The effect of the accepting step of a request row; a byte row has none. -/
def acceptEffect : Instr → State → State
  | .autobaud, s => acceptAutobaud s
  | .pack pga mode vref inch, s => acceptPack pga mode vref inch s
  | .sendcmd cmd, s => acceptSendcmd cmd s
  | .decode cmd, s => acceptDecode cmd s
  | .decodeos cmd count, s => acceptDecodeos cmd count s
  | .revbits arg, s => acceptRevbits arg s
  | .reserved6, s => s.raise .illegalOp
  | .reserved7, s => s.raise .illegalOp
  | .cmd _ _ _ _, s => s
  | .resp1 _ _, s => s
  | .resp2 _, s => s
  | .cal, s => s
  | .conf, s => s
  | .failed, s => s
  | .presync, s => s

/-- The meaning of every request row is the presentation of its accepting step. -/
theorem exec_request {i : Instr} (h : i.format = .req) (s : State) : exec i s = present (acceptEffect i) s := by
  cases i <;> first | rfl | (simp [Instr.format] at h)

/-- A byte row's meaning is the arrival of the byte it encodes to. -/
theorem exec_byte {i : Instr} {b : Byte} (h : encode i = .byte b) (s : State) :
    exec i s = receiveByte b s := by
  cases i <;> simp only [encode, Wire.byte.injEq, reduceCtorEq] at h <;> (subst h; rfl)

/-- Every request word decodes to a request row. -/
theorem decodeRequest_format (w : ReqWord) : (decodeRequest w).format = .req := by
  unfold decodeRequest
  split <;> rfl

/-- A byte that names a row is that row's encoding: no bit is dropped. -/
theorem encode_of_decodeByte {b : Byte} {i : Instr} (h : decodeByte b = .ok i) : encode i = .byte b := by
  have all : ∀ b : Byte, (match decodeByte b with | .ok i => decide (encode i = .byte b) | .error _ => true) = true := by
    decide
  have hb := all b
  rw [h] at hb
  exact of_decide_eq_true hb

/-- What a fetched byte row says of the inputs. -/
theorem fetchByte_some {i : Input} {r : Instr} (h : fetchByte i = some r) :
    ∃ b, encode r = .byte b ∧ i.opStart = false ∧ i.arrivals = [b] ∧ i.hostTakes = 0 ∧ i.hostSends = [] := by
  unfold fetchByte at h
  split at h
  · rename_i b hq ha
    split at h
    · rename_i r' hd
      cases h
      simp only [Input.hostActive, Bool.or_eq_false_iff, bne_eq_false_iff_eq, Bool.not_eq_false',
        List.isEmpty_iff] at hq
      exact ⟨b, encode_of_decodeByte hd, hq.1, ha, hq.2.1, hq.2.2⟩
    · cases h
  · cases h

/-- What the sampled inputs leave of the state the rules read. -/
@[simp] theorem seen_fsm (s : State) : s.seen.fsm = s.fsm := rfl

/-- The sampled ports do not change when the other agents act. -/
@[simp] theorem seen_inp (s : State) : s.seen.inp = s.sample.inp := rfl

/-- A step that neither resets, nor stops on the host's intrusion, nor presents a request is the sequencer's. -/
theorem step_of_no_request {s : State} (hr : s.seen.inp.rst = false) (hi : s.sample.hostIntrudes = false)
    (hs : s.seen.inp.opStart = false) : step s = advance s.seen := by
  simp only [seen_inp] at hr hs
  unfold step
  simp only [hr, hi, fetchRequest, hs, Bool.false_eq_true, if_false]
  split
  · rename_i r hf
    obtain ⟨b, hb, -, ha, ht, hn⟩ := fetchByte_some hf
    rw [exec_byte hb, receiveByte]
    simp only [State.seen, State.environment, State.deliver, ha, ht, hn, List.drop_zero, List.append_nil]
  · rfl

/-- A step that presents a request runs it. -/
theorem step_of_request {s : State} (hr : s.seen.inp.rst = false) (hi : s.sample.hostIntrudes = false)
    (hs : s.seen.inp.opStart = true) : step s = present (acceptEffect s.request) s.seen := by
  rw [← exec_request (i := s.request) (decodeRequest_format _)]
  simp only [seen_inp] at hr hs
  unfold step
  simp only [hr, hi, fetchRequest, hs, Bool.false_eq_true, if_false, if_true]
  rfl

/-- The whole step: the reset, the refusal, the presented request, the sequencer's own step, in this order. -/
theorem step_eq (s : State) :
    step s =
      if s.seen.inp.rst then .next s.seen.resetCore
      else if s.sample.hostIntrudes then .refused .hostTransportInFlight
      else if s.seen.inp.opStart then present (acceptEffect s.request) s.seen
      else advance s.seen := by
  by_cases hr : s.seen.inp.rst = true
  · rw [if_pos hr]
    simp only [seen_inp] at hr
    unfold step
    simp only [hr, if_true]
    rfl
  · rw [if_neg hr]
    rw [Bool.not_eq_true] at hr
    by_cases hi : s.sample.hostIntrudes = true
    · rw [if_pos hi]
      simp only [seen_inp] at hr
      unfold step
      simp only [hr, hi, Bool.false_eq_true, if_false, if_true]
    · rw [if_neg hi]
      rw [Bool.not_eq_true] at hi
      by_cases ho : s.seen.inp.opStart = true
      · rw [if_pos ho, step_of_request hr hi ho]
      · rw [if_neg ho]
        rw [Bool.not_eq_true] at ho
        exact step_of_no_request hr hi ho

/-- Everything a step can answer with a next state: a reset, an accepting step, or the sequencer's step. -/
theorem step_next {s t : State} (h : step s = .next t) :
    (s.seen.inp.rst = true ∧ t = s.seen.resetCore) ∨
    (s.Accepts ∧ t = acceptEffect s.request s.seen) ∨
    (s.seen.inp.rst = false ∧ (s.fsm ≠ .idle ∨ s.seen.inp.opStart = false) ∧ fsmAssigned s.fsm = true ∧
      t = sequencerStep s.seen) := by
  by_cases hr : s.seen.inp.rst = true
  · refine .inl ⟨hr, ?_⟩
    simp only [seen_inp] at hr
    unfold step at h
    simp only [hr, if_true] at h
    exact (Host.Outcome.next.inj h).symm
  · rw [Bool.not_eq_true] at hr
    by_cases hi : s.sample.hostIntrudes = true
    · simp only [seen_inp] at hr
      unfold step at h
      simp only [hr, hi, Bool.false_eq_true, if_false, if_true] at h
      cases h
    · rw [Bool.not_eq_true] at hi
      by_cases hs : s.seen.inp.opStart = true
      · rw [step_of_request hr hi hs] at h
        by_cases hf : s.fsm = .idle
        · rw [present_idle (by exact hf)] at h
          exact .inr (.inl ⟨⟨hr, hf, hs⟩, (Host.Outcome.next.inj h).symm⟩)
        · rw [present_busy (by exact hf)] at h
          exact .inr (.inr ⟨hr, .inl hf, advance_next h⟩)
      · rw [Bool.not_eq_true] at hs
        rw [step_of_no_request hr hi hs] at h
        exact .inr (.inr ⟨hr, .inr hs, advance_next h⟩)

end Sys2Proof.Machine
end

