-- ==== Sys2Proof/Laws/PerInstr.lean ====
section
/-! SUPPORT. Statements made per instruction: the encoding of every instruction fits its row of spec/opcode_table.json,
`word & mask = match` (spec 30_encoding.md R110). -/

namespace Sys2Proof.Laws.EncodingFitsRow

/-- `mask` and `match` of the instruction's row, as the table has them. -/
def row : Instr → Nat × Nat
  | .autobaud => (0xE0000000, 0x00000000)
  | .pack _ _ _ _ => (0xE0000000, 0x20000000)
  | .sendcmd _ => (0xE0000000, 0x40000000)
  | .decode _ => (0xE0000000, 0x60000000)
  | .decodeos _ _ => (0xE0000000, 0x80000000)
  | .revbits _ => (0xE0000000, 0xA0000000)
  | .reserved6 => (0xE0000000, 0xC0000000)
  | .reserved7 => (0xE0000000, 0xE0000000)
  | .cmd _ _ _ _ => (0xC2, 0xC0)
  | .resp1 _ _ => (0xC0, 0x80)
  | .resp2 _ => (0x81, 0x00)
  | .cal => (0xFF, 0xAA)
  | .conf => (0xFF, 0x55)
  | .failed => (0xFF, 0xFF)
  | .presync => (0xFF, 0x88)

/-- The word has its format's width and its row's fixed bits. -/
def fits (f : Format) (w : Wire) (mask fixed : Nat) : Bool :=
  match f, w with
  | .req, .request w => w &&& BitVec.ofNat 32 mask == BitVec.ofNat 32 fixed
  | .req, .byte _ => false
  | _, .byte b => b &&& BitVec.ofNat 8 mask == BitVec.ofNat 8 fixed
  | _, .request _ => false

/-- The encoding has its row's width and its row's fixed bits. -/
def Statement (i : Instr) : Prop := fits i.format (encode i) (row i).1 (row i).2 = true

/-- A bitwise AND of request words goes field by field (R91). -/
theorem requestWord_and (op op' : BitVec 3) (inch inch' : BitVec 2) (vref mode pga vref' mode' pga' : BitVec 1)
    (count count' : Byte) (arg arg' : Half) :
    requestWord op inch vref mode pga count arg &&& requestWord op' inch' vref' mode' pga' count' arg' =
      requestWord (op &&& op') (inch &&& inch') (vref &&& vref') (mode &&& mode') (pga &&& pga') (count &&& count')
        (arg &&& arg') := by
  unfold requestWord
  refine (BitVec.and_append (w := 16) (v := 16)).trans (congrArg (· ++ _) ?_)
  refine (BitVec.and_append (w := 8) (v := 8)).trans (congrArg (· ++ _) ?_)
  refine (BitVec.and_append (w := 7) (v := 1)).trans (congrArg (· ++ _) ?_)
  refine (BitVec.and_append (w := 6) (v := 1)).trans (congrArg (· ++ _) ?_)
  exact (BitVec.and_append (w := 5) (v := 1)).trans (congrArg (· ++ _) (BitVec.and_append (w := 3) (v := 2)))

/-- The operation code is what the mask keeps of a request word (R91, R93). -/
theorem requestWord_mask (op : BitVec 3) (inch : BitVec 2) (vref mode pga : BitVec 1) (count : Byte) (arg : Half) :
    requestWord op inch vref mode pga count arg &&& 0xE0000000#32 = requestWord op 0 0 0 0 0 0 := by
  have fixed : (0xE0000000#32) = requestWord (BitVec.allOnes 3) 0 0 0 0 0 0 := by decide
  rw [fixed, requestWord_and]
  simp only [BitVec.and_allOnes]
  congr 1 <;> exact BitVec.and_zero

/-- A request word fits the row of its operation code. -/
theorem fits_requestWord {op : BitVec 3} {fixed : Nat} (h : requestWord op 0 0 0 0 0 0 = BitVec.ofNat 32 fixed)
    (inch : BitVec 2) (vref mode pga : BitVec 1) (count : Byte) (arg : Half) :
    fits .req (.request (requestWord op inch vref mode pga count arg)) 0xE0000000 fixed = true :=
  beq_iff_eq.mpr ((requestWord_mask ..).trans h)

theorem autobaud : Statement .autobaud := rfl

theorem pack (pga : Gain) (mode : Mode) (vref : Vref) (inch : BitVec 2) : Statement (.pack pga mode vref inch) :=
  fits_requestWord (op := 1) (fixed := 0x20000000) (by decide) ..

theorem sendcmd (cmd : Byte) : Statement (.sendcmd cmd) :=
  fits_requestWord (op := 2) (fixed := 0x40000000) (by decide) ..

theorem decode (cmd : Byte) : Statement (.decode cmd) :=
  fits_requestWord (op := 3) (fixed := 0x60000000) (by decide) ..

theorem decodeos (cmd count : Byte) : Statement (.decodeos cmd count) :=
  fits_requestWord (op := 4) (fixed := 0x80000000) (by decide) ..

theorem revbits (arg : Half) : Statement (.revbits arg) :=
  fits_requestWord (op := 5) (fixed := 0xA0000000) (by decide) ..

theorem reserved6 : Statement .reserved6 := rfl

theorem reserved7 : Statement .reserved7 := rfl

theorem cmd (inch : BitVec 2) (vref : Vref) (mode : Mode) (pga : Gain) : Statement (.cmd inch vref mode pga) := by
  cases vref <;> cases mode <;> cases pga <;> revert inch <;> unfold Statement <;> decide

theorem resp1 (inch : BitVec 2) (d9_d6 : BitVec 4) : Statement (.resp1 inch d9_d6) := by
  revert inch d9_d6; unfold Statement; decide

theorem resp2 (d5_d0 : BitVec 6) : Statement (.resp2 d5_d0) := by
  revert d5_d0; unfold Statement; decide

theorem cal : Statement .cal := rfl

theorem conf : Statement .conf := rfl

theorem failed : Statement .failed := rfl

theorem presync : Statement .presync := rfl

end Sys2Proof.Laws.EncodingFitsRow
end

