-- ==== Sys2Proof/Tests/Slice0.lean ====
section
/-! SUPPORT. Our own tests: the well-formedness smoke tests, one word per constructor written out from its encoding,
small one-step tests whose expected values are the vectors of spec/95_test_vectors.md (the vector's id is named), and for
each statement with hypotheses a concrete state and operands that meet them together (`witness_…`). -/

namespace Sys2Proof.Tests

open Sys2Proof.Machine

/-! ## Small states -/

/-- The bounds of the tests: `HS_MAX = 8`, `ECHO_MAX = 3`, `POLL_MAX = 4`, the two switches at their defaults. -/
def bounds : Params :=
  { hsMax := 8, echoMax := 3, pollMax := 4, calAfterFinal := true, osExcludeByValue := false }

/-- The state after reset with `fsm` as given, under the tests' bounds. -/
def base (f : Fsm) : State := { State.reset with params := bounds, fsm := f }

/-- The base state with the transport ready. -/
def readyBase (f : Fsm) : State := { base f with inp := { Input.quiet with transmitReady := true } }

/-- Quiet ports with the transport ready. -/
def readyPorts : Input := { Input.quiet with transmitReady := true }

/-- Ready ports that present a request word. -/
def startPorts (w : ReqWord) : Input := { readyPorts with opStart := true, req := w }

/-- Ready ports that present a packet. -/
def packetPorts (p : Packet) : Input := { readyPorts with pkt := p, pktValid := true }

/-- The next state, where there is one. -/
def nextOf : Host.Outcome State Fault Refusal → Option State
  | .next t => some t
  | .fault _ => none
  | .refused _ => none

/-! ## Well-formedness -/

/-- `0xAA` read without its place is CAL, not a first data byte of channel 2 (R105). -/
theorem test_wf_refuses_resp1_of_cal : (Instr.resp1 2 0xA).wf = false := by decide

/-- `0x88` read without its place is PRESYNC, not a first data byte of channel 0 (R104). -/
theorem test_wf_refuses_resp1_of_presync : (Instr.resp1 0 0x8).wf = false := by decide

/-- INCH 3 is outside the domain (R98). -/
theorem test_domain_refuses_pack_of_channel_3 : (Instr.pack .one .stream .external 3).inDomain = false := by decide

/-- INCH 3 is outside the domain (R98). -/
theorem test_domain_refuses_cmd_of_channel_3 : (Instr.cmd 3 .vdd .single .half).inDomain = false := by decide

/-- INCH 3 is outside the domain (R100). -/
theorem test_domain_refuses_resp1_of_channel_3 : (Instr.resp1 3 0).inDomain = false := by decide

/-! ## Decoding: words written out bit by bit from R91, R96, R100, R101, R104 -/

theorem test_decode_autobaud :
    decodeTableWord 32 0b000_00_0_0_0_00000000_0000000000000000 = some .autobaud := by decide
/-- Vector P6. -/
theorem test_decode_pack :
    decodeTableWord 32 0b001_10_1_0_1_00000000_0000000000000000 = some (.pack .one .single .external 2) := by decide
/-- Vector SC1. -/
theorem test_decode_sendcmd :
    decodeTableWord 32 0b010_00_0_0_0_00000000_0000000011010001 = some (.sendcmd 0xD1) := by decide
/-- Vector D4. -/
theorem test_decode_decode :
    decodeTableWord 32 0b011_00_0_0_0_00000000_0000000011010100 = some (.decode 0xD4) := by decide
/-- Vector O7. -/
theorem test_decode_decodeos :
    decodeTableWord 32 0b100_00_0_0_0_00000100_0000000011010100 = some (.decodeos 0xD4 4) := by decide
/-- Vector V10. -/
theorem test_decode_revbits :
    decodeTableWord 32 0b101_00_0_0_0_00000000_1001101001101010 = some (.revbits 0x9A6A) := by decide
/-- Vector X1. -/
theorem test_decode_reserved6 :
    decodeTableWord 32 0b110_00_0_0_0_00000000_0000000000000000 = some .reserved6 := by decide
/-- Vector X2. -/
theorem test_decode_reserved7 :
    decodeTableWord 32 0b111_11_1_1_1_11111111_1111111111111111 = some .reserved7 := by decide
theorem test_decode_cmd : decodeTableWord 8 0b11_01_0_1_0_0 = some (.cmd 1 .vdd .stream .half) := by decide
/-- Byte 1 of vector D4. -/
theorem test_decode_resp1 : decodeTableWord 8 0b10_01_1010 = some (.resp1 1 0b1010) := by decide
/-- Byte 2 of vector D4. -/
theorem test_decode_resp2 : decodeTableWord 8 0b0_110101_0 = some (.resp2 0b110101) := by decide
theorem test_decode_cal : decodeTableWord 8 0b10101010 = some .cal := by decide
theorem test_decode_conf : decodeTableWord 8 0b01010101 = some .conf := by decide
theorem test_decode_failed : decodeTableWord 8 0b11111111 = some .failed := by decide
theorem test_decode_presync : decodeTableWord 8 0b10001000 = some .presync := by decide
/-- In a packet's second place `0xAA` is a data byte (R105). -/
theorem test_placed_0xAA_is_resp1 : decodeAs .resp1 (.byte 0xAA) = .ok (.resp1 2 0xA) := by rfl
/-- Bit 1 of a command byte is 0 (R96); `0xC2` is no row. -/
theorem test_decode_rejects_0xC2 : decodeTableWord 8 0xC2 = none := by decide

/-! ## One step of each instruction -/

/-- From vector A3's first step. -/
theorem test_autobaud_clears_the_flags :
    (nextOf (exec .autobaud { base .idle with rxConf := true, cfConf := true, iter := 5 })).map
      (fun t => (t.rxConf, t.cfConf, t.iter, t.fsm)) = some (false, false, 0, .hsTx0) := by decide
/-- Vector P7. -/
theorem test_pack_0xED :
    (nextOf (exec (.pack .one .stream .external 2) (base .idle))).map (·.resCmd) = some 0xED := by decide
/-- Vector P8: channel 3 is built all the same. -/
theorem test_pack_outside_the_domain :
    (nextOf (exec (.pack .one .stream .external 3) (base .idle))).map (·.resCmd) = some 0xFD := by decide
/-- The first row of SC2's trace. -/
theorem test_sendcmd_latches :
    (nextOf (exec (.sendcmd 0xD1) { base .idle with tries := 9 })).map (fun t => (t.cmdLat, t.tries, t.fsm, t.done)) =
      some (0xD1, 0, .ctTx, false) := by decide
/-- Vector D4. -/
theorem test_decode_693 :
    (nextOf (exec (.decode 0xD4) { base .idle with inp := packetPorts 0xD49A6A })).map
      (fun t => (t.resChannel, t.resValue, t.resFailed)) = some (1, 0x02B5, false) := by decide
/-- Vector D9. -/
theorem test_decode_mismatch :
    (nextOf (exec (.decode 0xC0) { base .idle with inp := packetPorts 0xC1852A })).map
      (fun t => (t.resChannel, t.resValue, t.resFailed, t.status)) = some (0xFF, 0x00FF, true, .ok) := by decide
/-- Program 2, action 3. -/
theorem test_decodeos_latches :
    (nextOf (exec (.decodeos 0xD4 4) (base .idle))).map (fun t => (t.cmdLat, t.rem, t.lastCh, t.fsm)) =
      some (0xD4, 4, 0xFF, .osRun) := by decide
/-- Vector O4. -/
theorem test_decodeos_of_nothing :
    (nextOf (exec (.decodeos 0xC0 0) (base .idle))).map (·.fsm) = some .osFin := by decide
/-- Vector V5. -/
theorem test_revbits_0x1234 : (nextOf (exec (.revbits 0x1234) (base .idle))).map (·.resWord) = some 0x2C48 := by decide
/-- Vector X1. -/
theorem test_reserved6_is_illegal :
    (nextOf (exec .reserved6 (base .idle))).map (fun t => (t.status, t.done)) = some (.illegalOp, true) := by decide
/-- Vector X2. -/
theorem test_reserved7_is_illegal :
    (nextOf (exec .reserved7 (base .idle))).map (fun t => (t.status, t.done)) = some (.illegalOp, true) := by decide
/-- Vector X3: a request while busy is lost. -/
theorem test_pack_while_busy_is_lost :
    (nextOf (exec (.pack .one .single .external 2) (base .ctRx))).map (fun t => (t.resCmd, t.fsm)) = some (0, .ctRx) := by
  decide
/-- Vector SC1's last step. -/
theorem test_cmd_is_the_echo :
    (nextOf (exec (.cmd 1 .vdd .single .one) { base .ctRx with cmdLat := 0xD1, tries := 1 })).map
      (fun t => (t.status, t.done, t.fsm, t.rx)) = some (.ok, true, .idle, []) := by decide
/-- R80: in `IDLE` a byte waits in `RX`. -/
theorem test_resp1_waits : (nextOf (exec (.resp1 1 0xA) (base .idle))).map (·.rx) = some [0x9A] := by decide
/-- R80. -/
theorem test_resp2_waits : (nextOf (exec (.resp2 0x35) (base .idle))).map (·.rx) = some [0x6A] := by decide
/-- Vector A17: `AA` is a plain mismatch. -/
theorem test_cal_is_a_mismatch :
    (nextOf (exec .cal { base .hsRx with rxConf := true })).map (fun t => (t.rxConf, t.iter, t.fsm)) =
      some (false, 1, .hsTxm) := by decide
/-- Vector A3: the second `55`. -/
theorem test_conf_is_the_second_stage :
    (nextOf (exec .conf { base .hsRx with rxConf := true, iter := 1 })).map (fun t => (t.cfConf, t.iter, t.fsm)) =
      some (true, 2, .hsTxa) := by decide
/-- Vector A4: with `CAL_AFTER_FINAL = 0` the second `55` completes. -/
theorem test_conf_completes_without_the_final_byte :
    (nextOf (exec .conf { base .hsRx with rxConf := true, params := { bounds with calAfterFinal := false } })).map
      (fun t => (t.cfConf, t.status, t.fsm)) = some (true, .ok, .idle) := by decide
/-- Vector A17: `FF` is a plain mismatch. -/
theorem test_failed_is_a_mismatch : (nextOf (exec .failed (base .hsRx))).map (·.fsm) = some .hsTxm := by decide
/-- Vector A17: `88` is a plain mismatch. -/
theorem test_presync_is_a_mismatch : (nextOf (exec .presync (base .hsRx))).map (·.fsm) = some .hsTxm := by decide
/-- Vectors X4, X5: reset before the start. -/
theorem test_reset_wins :
    (nextOf (step { base .hsRx with
      rxConf := true, iter := 5, tx := [0xAA], sched := [{ startPorts 0x35000000 with rst := true }] })).map
      (fun t => (t.fsm, t.rxConf, t.iter, t.tx)) = some (.idle, false, 0, [0xAA]) := by decide

/-! ## Witnesses: each statement's hypotheses met together -/

theorem witness_DecodeOfEncodeIsTheInstruction : (Instr.resp1 2 0xB).wf = true := by decide

theorem witness_StepRunsTheDecodedRequest :
    (∃ s : State, s = { base .osRun with sched := [startPorts 0x35000000] } ∧
      s.seen.inp.rst = false ∧ s.sample.hostIntrudes = false ∧ s.seen.inp.opStart = true) ∧
    (∃ s : State, s = { base .idle with sched := [startPorts 0x35000000] } ∧ s.Accepts) :=
  ⟨⟨_, rfl, by decide⟩, ⟨_, rfl, by decide, by decide, by decide⟩⟩

theorem witness_StepRunsTheArrivingByteRow :
    ∃ s : State, s = { base .hsRx with sched := [{ readyPorts with arrivals := [0x55] }] } ∧
      s.sample.inp.rst = false ∧ s.sample.inp.opStart = false ∧ s.sample.inp.hostActive = false ∧
      s.sample.inp.arrivals = [0x55] ∧ decode (.byte 0x55) = .ok .conf :=
  ⟨_, rfl, by decide, by decide, by decide, by decide, rfl⟩

theorem witness_PlacedWordIsRunByTheNextStep :
    (∃ u : State, u = (base .ctRx).withFetchWord 32 (0x35000000 : ReqWord).toNat) ∧
    decodeByte 0x55 = .ok .conf ∧ ∃ u : State, u = (base .ctRx).withFetchWord 8 (0x55 : Byte).toNat :=
  ⟨⟨_, rfl⟩, rfl, _, rfl⟩

theorem witness_StepWithoutAcceptanceIsTheSequencers :
    (∃ s : State, s = { base .idle with sched := [readyPorts] } ∧
      s.seen.inp.rst = false ∧ s.sample.hostIntrudes = false ∧ s.seen.inp.opStart = false) ∧
    (∃ s : State, s = { base .hsRx with sched := [startPorts 0] } ∧
      s.seen.inp.rst = false ∧ s.sample.hostIntrudes = false ∧ s.fsm ≠ .idle) :=
  ⟨⟨_, rfl, by decide⟩, ⟨_, rfl, by decide⟩⟩

theorem witness_OnlyHostIntrusionIsRefused :
    ∃ s : State, s = { base .ctRx with rx := [1], sched := [{ readyPorts with hostTakes := 1 }] } ∧
      s.sample.inp.rst = false ∧ s.fsm = .ctRx ∧ s.sample.inp.hostTakes ≠ 0 ∧ step s = .refused .hostTransportInFlight :=
  ⟨_, rfl, by decide, by decide, by decide, rfl⟩

theorem witness_ResetStepResetsEveryRegister :
    ∃ s : State, s = { base .hsRx with sched := [{ startPorts 0 with rst := true }] } ∧ s.seen.inp.rst = true :=
  ⟨_, rfl, by decide⟩

/-- For every statement whose one hypothesis is `fsm = IDLE`: AutobaudIsAccepted, PackBuildsTheCommandByte,
SendcmdIsAccepted, DecodeWritesTheReading, DecodeosIsAccepted, RevbitsMirrorsTheWord, ReservedCodesRaiseIllegalOp,
ByteRowsJoinTheReceiveStream, IdleHolds. -/
theorem witness_idle : (base .idle).fsm = .idle := by decide

/-- With DecodeBitByBit's last clause: vector D4, where `b2[7] = 0`. -/
theorem witness_DecodeBitByBit :
    ∃ s : State, s = { base .idle with inp := packetPorts 0xD49A6A } ∧ s.fsm = .idle ∧
      s.inp.pkt = (0xD4 : Byte) ++ (0x9A : Byte) ++ (0x6A : Byte) ∧ (0x6A : Byte).getLsbD 7 = false :=
  ⟨_, rfl, by decide⟩

/-- The boundary reading 1023 of the boundary channel 2 (vector D2). -/
theorem witness_DecodeRecoversEveryReading :
    ∃ s : State, s = { base .idle with inp := packetPorts 0xE9AF7E } ∧ s.fsm = .idle ∧
      s.inp.pkt = packetOf 0xE9 2 1023 := ⟨_, rfl, by decide⟩

/-- Each clause of EchoMismatchYieldsTheSentinel: vectors D9 and D8. -/
theorem witness_EchoMismatchYieldsTheSentinel :
    (∃ s : State, s = { base .idle with inp := packetPorts 0xC1852A } ∧ s.fsm = .idle ∧
      s.inp.pkt = (0xC1 : Byte) ++ (0x85 : Byte) ++ (0x2A : Byte) ∧ (0xC1 : Byte) ≠ 0xC0) ∧
    (∃ s : State, s = { base .idle with inp := packetPorts 0xC0837E } ∧ s.fsm = .idle ∧
      s.inp.pkt = (0xC0 : Byte) ++ (0x83 : Byte) ++ (0x7E : Byte)) :=
  ⟨⟨_, rfl, by decide⟩, ⟨_, rfl, by decide⟩⟩

theorem witness_RevbitsTwiceIsTheWord :
    ∃ t : State, (base .idle).fsm = .idle ∧ exec (.revbits 0x1234) (base .idle) = .next t := ⟨_, by decide, rfl⟩

theorem witness_RequestWhileBusyIsLost : Instr.autobaud.format = .req ∧ (base .ctRx).fsm ≠ .idle := by decide

/-- A receive state and a state that is none, for each clause of ByteRowsCompleteInEveryNamedState. -/
theorem witness_ByteRowsCompleteInEveryNamedState :
    encode .presync = .byte 0x88 ∧ fsmAssigned (base .hsRx).fsm = true ∧ fsmReceives (base .hsRx).fsm = true ∧
      fsmAssigned (base .osFin).fsm = true ∧ fsmReceives (base .osFin).fsm = false := by decide

/-- The three cases of ConfirmationByteAdvancesTheHandshake and of HandshakeMatchBranch. -/
theorem witness_ConfirmationByteAdvancesTheHandshake :
    ((base .hsRx).fsm = .hsRx ∧ (base .hsRx).rx = [] ∧ (base .hsRx).rxConf = false) ∧
    ∃ s : State, s = { base .hsRx with rxConf := true } ∧ s.fsm = .hsRx ∧ s.rx = [] ∧ s.rxConf = true ∧
      s.params.calAfterFinal = true := ⟨by decide, _, rfl, by decide⟩

theorem witness_OtherByteRowsRestartTheRamp :
    encode .cal = .byte 0xAA ∧ Instr.cal ≠ .conf ∧ (base .hsRx).fsm = .hsRx ∧ (base .hsRx).rx = [] := by decide

/-- A match, a mismatch at the bound, a mismatch below it. -/
theorem witness_CommandByteIsTheEcho :
    (base .ctRx).fsm = .ctRx ∧ (base .ctRx).rx = [] ∧
    cmdByte 1 .vdd .single .one = (0xD1 : Byte) ∧ (3 : BitVec 16) = bounds.echoMax := by decide

/-- Every wait state, with the readiness it awaits absent, at the bound's last step and before it. -/
theorem witness_PollBoundEndsAWait :
    ((base .ctTx).fsm ∈ [Fsm.hsTx0, .hsTxm, .hsTxa, .ctTx] ∧ (base .ctTx).inp.transmitReady = false) ∧
    ((base .ctRx).fsm ∈ [Fsm.hsRx, .ctRx] ∧ (base .ctRx).rx = []) ∧
    (base .ctRx).params.pollMax ≠ 0 ∧ (3 : BitVec 16) = (base .ctRx).params.pollMax - 1 := by decide

/-- Each of the two states, ready and (`base`) not ready. -/
theorem witness_CalibrationByteIsSent :
    ((readyBase .hsTx0).fsm = .hsTx0 ∧ (readyBase .hsTx0).inp.transmitReady = true) ∧
    ((base .hsTx0).fsm = .hsTx0 ∧ (base .hsTx0).inp.transmitReady = false) ∧
    ((readyBase .hsTxm).fsm = .hsTxm ∧ (readyBase .hsTxm).inp.transmitReady = true) ∧
    ((base .hsTxm).fsm = .hsTxm ∧ (base .hsTxm).inp.transmitReady = false) := by decide

theorem witness_HandshakeMatchBranch :
    (∃ s : State, s = { base .hsRx with rx := [0x55, 1] } ∧ s.fsm = .hsRx ∧ s.rx = 0x55 :: [1] ∧ s.rxConf = false) ∧
    (∃ s : State, s = { base .hsRx with rx := [0x55, 1], rxConf := true } ∧ s.fsm = .hsRx ∧ s.rx = 0x55 :: [1] ∧
      s.rxConf = true ∧ s.params.calAfterFinal = true) ∧
    (∃ s : State, s = { base .hsRx with
        rx := [0x55, 1], rxConf := true, params := { bounds with calAfterFinal := false } } ∧
      s.fsm = .hsRx ∧ s.rx = 0x55 :: [1] ∧ s.rxConf = true ∧ s.params.calAfterFinal = false) :=
  ⟨⟨_, rfl, by decide⟩, ⟨_, rfl, by decide⟩, ⟨_, rfl, by decide⟩⟩

/-- The near miss `0x54`. -/
theorem witness_HandshakeMismatchBranch :
    ∃ s : State, s = { base .hsRx with rx := [0x54, 0x55] } ∧ s.fsm = .hsRx ∧ s.rx = 0x54 :: [0x55] ∧
      (0x54 : Byte) ≠ 0x55 := ⟨_, rfl, by decide⟩

/-- Success exactly at the iteration bound, the bound without success, and below the bound. -/
theorem witness_HandshakeIterationEnds :
    (∃ s : State, s = { readyBase .hsTxa with rxConf := true, cfConf := true, iter := 8 } ∧ s.fsm = .hsTxa ∧
      s.inp.transmitReady = true ∧ (s.rxConf = true ∧ s.cfConf = true) ∧ s.iter = s.params.hsMax) ∧
    (∃ s : State, s = { readyBase .hsTxa with rxConf := true, iter := 8 } ∧ s.fsm = .hsTxa ∧
      s.inp.transmitReady = true ∧ ¬(s.rxConf = true ∧ s.cfConf = true) ∧ s.iter = s.params.hsMax) ∧
    (∃ s : State, s = { readyBase .hsTxa with iter := 7 } ∧ s.fsm = .hsTxa ∧ s.inp.transmitReady = true ∧
      ¬(s.rxConf = true ∧ s.cfConf = true) ∧ s.iter ≠ s.params.hsMax) :=
  ⟨⟨_, rfl, by decide⟩, ⟨_, rfl, by decide⟩, ⟨_, rfl, by decide⟩⟩

theorem witness_CommandByteIsSent :
    (readyBase .ctTx).fsm = .ctTx ∧ (readyBase .ctTx).inp.transmitReady = true := by decide

/-- A match at the bound, a mismatch at the bound, a mismatch below it. -/
theorem witness_EchoIsValidated :
    (∃ s : State, s = { base .ctRx with rx := [0xD1], cmdLat := 0xD1, tries := 3 } ∧ s.fsm = .ctRx ∧
      s.rx = 0xD1 :: [] ∧ (0xD1 : Byte) = s.cmdLat ∧ s.tries = s.params.echoMax) ∧
    (∃ s : State, s = { base .ctRx with rx := [0x51], cmdLat := 0xD1, tries := 3 } ∧ s.fsm = .ctRx ∧
      s.rx = 0x51 :: [] ∧ (0x51 : Byte) ≠ s.cmdLat ∧ s.tries = s.params.echoMax) ∧
    (∃ s : State, s = { base .ctRx with rx := [0x51], cmdLat := 0xD1, tries := 2 } ∧ s.fsm = .ctRx ∧
      s.rx = 0x51 :: [] ∧ (0x51 : Byte) ≠ s.cmdLat ∧ s.tries ≠ s.params.echoMax) :=
  ⟨⟨_, rfl, by decide⟩, ⟨_, rfl, by decide⟩, ⟨_, rfl, by decide⟩⟩

/-- No packet; a counted one; a mismatching one, which is not counted. -/
theorem witness_OversampleAttempt :
    ((base .osRun).fsm = .osRun ∧ (base .osRun).inp.pktValid = false) ∧
    (∃ s : State, s = { base .osRun with cmdLat := 0xD4, rem := 1, inp := packetPorts 0xD49A6A } ∧ s.fsm = .osRun ∧
      s.inp.pktValid = true ∧ s.params.osExcludeByValue = false ∧ (decPacket s.inp.pkt s.cmdLat).failed = false) ∧
    (∃ s : State, s = { base .osRun with cmdLat := 0xD5, rem := 2, inp := packetPorts 0xD49A6A } ∧ s.fsm = .osRun ∧
      s.inp.pktValid = true ∧ s.params.osExcludeByValue = false ∧ (decPacket s.inp.pkt s.cmdLat).failed = true) :=
  ⟨by decide, ⟨_, rfl, by decide⟩, ⟨_, rfl, by decide⟩⟩

/-- With `OS_EXCLUDE_BY_VALUE = 1`: the good reading 100, which is counted, and the good reading 255, which is not (vector
O12v). -/
theorem witness_OversampleAttempt_by_value :
    (∃ s : State, s = { base .osRun with
        cmdLat := 0xC0, rem := 1, params := { bounds with osExcludeByValue := true }, inp := packetPorts 0xC08148 } ∧
      s.fsm = .osRun ∧ s.inp.pktValid = true ∧ s.params.osExcludeByValue = true ∧
      (decPacket s.inp.pkt s.cmdLat).value ≠ 0x00FF) ∧
    (∃ s : State, s = { base .osRun with
        cmdLat := 0xC0, rem := 2, params := { bounds with osExcludeByValue := true }, inp := packetPorts 0xC0837E } ∧
      s.fsm = .osRun ∧ s.inp.pktValid = true ∧ s.params.osExcludeByValue = true ∧
      (decPacket s.inp.pkt s.cmdLat).value = 0x00FF ∧ (decPacket s.inp.pkt s.cmdLat).failed = false) :=
  ⟨⟨_, rfl, by decide⟩, ⟨_, rfl, by decide⟩⟩

/-- The greatest sum the bound admits (vector O11), and no sample at all (vector O3). -/
theorem witness_OversampleResult :
    (∃ s : State, s = { base .osFin with acc := 260865, succ := 255 } ∧ s.fsm = .osFin ∧
      s.acc.toNat ≤ 1023 * s.succ.toNat ∧ s.succ ≠ 0) ∧
    ((base .osFin).fsm = .osFin ∧ (base .osFin).acc.toNat ≤ 1023 * (base .osFin).succ.toNat ∧ (base .osFin).succ = 0) :=
  ⟨⟨_, rfl, by decide⟩, by decide⟩

theorem witness_StreamsMoveWithTheStrobes :
    ∃ s t : State, s = { base .ctTx with cmdLat := 0xD1, sched := [readyPorts] } ∧ step s = .next t ∧
      s.seen.sendByte = true ∧ t.tx = [0xD1] := ⟨_, _, rfl, rfl, by decide, by decide⟩

/-- A busy core's completing step, an accepted one-step request, a step that completes nothing, and an idle step that
finds `done` at 1. -/
theorem witness_StatusIsWrittenOnlyOnCompletion :
    (∃ s t : State, s = { base .ctRx with cmdLat := 0xD1, rx := [0xD1], sched := [readyPorts] } ∧ step s = .next t ∧
      s.seen.inp.rst = false ∧ s.fsm ≠ .idle ∧ t.fsm = .idle ∧ t.done = true) ∧
    (∃ s t : State, s = { base .idle with sched := [startPorts 0xA0001234] } ∧ step s = .next t ∧
      s.seen.inp.rst = false ∧ s.seen.inp.opStart = true ∧ s.request.completesAtOnce = true ∧ t.done = true) ∧
    (∃ s t : State, s = { base .ctTx with sched := [readyPorts] } ∧ step s = .next t ∧ s.seen.inp.rst = false ∧
      t.done = false) ∧
    (∃ s t : State, s = { base .idle with done := true, sched := [readyPorts] } ∧ step s = .next t ∧
      s.seen.inp.rst = false ∧ t.done = false) :=
  ⟨⟨_, _, rfl, rfl, by decide⟩, ⟨_, _, rfl, rfl, by decide⟩, ⟨_, _, rfl, rfl, by decide⟩, ⟨_, _, rfl, rfl, by decide⟩⟩

/-- A step that completes with each error. -/
theorem witness_ErrorsStayInTheirFamily :
    (∃ s t : State, s = { base .hsRx with poll := 3, sched := [Input.quiet] } ∧ step s = .next t ∧
      s.seen.inp.rst = false ∧ t.done = true ∧ t.status = .hsTimeout) ∧
    (∃ s t : State, s = { base .ctTx with poll := 3, sched := [Input.quiet] } ∧ step s = .next t ∧
      s.seen.inp.rst = false ∧ t.done = true ∧ t.status = .echoTimeout) ∧
    (∃ s t : State, s = { base .idle with sched := [startPorts 0xC0000000] } ∧ step s = .next t ∧
      s.seen.inp.rst = false ∧ t.done = true ∧ t.status = .illegalOp) :=
  ⟨⟨_, _, rfl, rfl, by decide⟩, ⟨_, _, rfl, rfl, by decide⟩, ⟨_, _, rfl, rfl, by decide⟩⟩

/-- Each result register changes in some step. -/
theorem witness_ResultsAreWrittenByTheirOwnOperations :
    (∃ s t : State, s = { base .idle with sched := [startPorts 0x35000000] } ∧ step s = .next t ∧
      s.seen.inp.rst = false ∧ t.resCmd ≠ s.resCmd) ∧
    (∃ s t : State, s = { base .idle with sched := [startPorts 0xA0001234] } ∧ step s = .next t ∧
      s.seen.inp.rst = false ∧ t.resWord ≠ s.resWord) ∧
    (∃ s t : State, s = { base .osFin with sched := [readyPorts] } ∧ step s = .next t ∧
      s.seen.inp.rst = false ∧ t.resChannel ≠ s.resChannel) :=
  ⟨⟨_, _, rfl, rfl, by decide⟩, ⟨_, _, rfl, rfl, by decide⟩, ⟨_, _, rfl, rfl, by decide⟩⟩

theorem witness_CalibrationFlagsBelongToTheHandshake :
    ∃ s t : State, s = { base .hsRx with rx := [0x55], sched := [readyPorts] } ∧ step s = .next t ∧
      s.seen.inp.rst = false ∧ ¬(t.rxConf = s.rxConf ∧ t.cfConf = s.cfConf ∧ t.iter = s.iter) :=
  ⟨_, _, rfl, rfl, by decide⟩

theorem witness_CommandLatchIsWrittenOnlyAtAcceptance :
    ∃ s t : State, s = { base .idle with sched := [startPorts 0x400000D1] } ∧ step s = .next t ∧
      s.seen.inp.rst = false ∧ t.cmdLat ≠ s.cmdLat := ⟨_, _, rfl, rfl, by decide⟩

theorem witness_BusyCoreIgnoresTheOperationPort : (base .hsTx0).fsm ≠ .idle := by decide

theorem witness_PacketPortIsReadOnlyByDecoders :
    (base .idle).fsm ≠ .osRun ∧
      ¬((base .idle).fsm = .idle ∧ (readyPorts).opStart = true ∧ ∃ cmd, decodeRequest readyPorts.req = .decode cmd) :=
  ⟨by decide, fun h => absurd h.2.1 (by decide)⟩

/-- A state in the middle of a handshake meets the invariant. -/
theorem witness_StepKeepsTheInvariant :
    ∃ s t : State, s = { base .hsRx with rxConf := true, iter := 7, rx := [0x55], sched := [readyPorts] } ∧ s.Inv ∧
      step s = .next t :=
  ⟨_, _, rfl, ⟨by decide, by decide, by decide, ⟨by decide, by decide, by decide, by decide, by decide⟩,
    ⟨by decide, by decide⟩, ⟨by decide, by decide⟩, ⟨by decide, by decide, by decide, by decide⟩,
    ⟨by decide, by decide, by decide, by decide⟩⟩, rfl⟩

theorem witness_NamedSequencerStatesNeverFault : fsmAssigned (base .osRun).fsm = true := by decide

theorem witness_UnassignedSequencerStateIsStuck :
    ∃ s : State, s = { base (.unassigned 6) with sched := [readyPorts] } ∧ s.fsm = .unassigned 6 ∧
      s.seen.inp.rst = false := ⟨_, rfl, by decide⟩

/-- Four silent steps under `POLL_MAX = 4`, with the operation port driven. -/
theorem witness_SilentWaitTimesOut :
    ∃ (s : State) (silence : List Input), silence = List.replicate 4 { Input.quiet with opStart := true } ∧
      s = { base .ctRx with sched := silence ++ [readyPorts] } ∧ fsmStarves s.fsm s.rx = true ∧ s.params.pollMax ≠ 0 ∧
      s.poll = 0 ∧ silence.length = s.params.pollMax.toNat ∧ (∀ i ∈ silence, i.silent) ∧
      s.sched = silence ++ [readyPorts] := ⟨_, _, rfl, rfl, by decide⟩

theorem witness_UnboundedWaitNeverCompletes :
    ∃ (s : State) (silence : List Input), silence = List.replicate 9 Input.quiet ∧
      s = { base .hsRx with params := { bounds with pollMax := 0 }, sched := silence ++ [] } ∧
      fsmStarves s.fsm s.rx = true ∧ s.params.pollMax = 0 ∧ (∀ i ∈ silence, i.silent) ∧ s.sched = silence ++ [] :=
  ⟨_, _, rfl, rfl, by decide⟩

/-- Vector SC5: the match at the bound. -/
theorem witness_SendcmdEndsAtTheMatchingEcho :
    ∃ (s : State) (polls : List Input), polls = List.replicate 6 readyPorts ∧
      s = { base .idle with rx := [0x55, 0x00] ++ 0xD1 :: [7], sched := startPorts 0x400000D1 :: polls ++ [] } ∧
      s.fsm = .idle ∧ (startPorts 0x400000D1).ready ∧ (startPorts 0x400000D1).opStart = true ∧
      decodeRequest (startPorts 0x400000D1).req = .sendcmd 0xD1 ∧ (∀ i ∈ polls, i.ready) ∧
      polls.length = 2 * (([0x55, 0x00] : List Byte).length + 1) ∧
      (∀ b ∈ ([0x55, 0x00] : List Byte), b ≠ 0xD1) ∧ ([0x55, 0x00] : List Byte).length + 1 ≤ s.params.echoMax.toNat :=
  ⟨_, _, rfl, rfl, by decide⟩

/-- Vector SC6. -/
theorem witness_SendcmdGivesUpAtTheBound :
    ∃ (s : State) (polls : List Input), polls = List.replicate 6 readyPorts ∧
      s = { base .idle with rx := [0x55, 0x00, 0xFF] ++ [0xD1], sched := startPorts 0x400000D1 :: polls ++ [] } ∧
      s.fsm = .idle ∧ (startPorts 0x400000D1).ready ∧ (startPorts 0x400000D1).opStart = true ∧
      decodeRequest (startPorts 0x400000D1).req = .sendcmd 0xD1 ∧ (∀ i ∈ polls, i.ready) ∧
      polls.length = 2 * ([0x55, 0x00, 0xFF] : List Byte).length ∧
      (∀ b ∈ ([0x55, 0x00, 0xFF] : List Byte), b ≠ 0xD1) ∧
      ([0x55, 0x00, 0xFF] : List Byte).length = s.params.echoMax.toNat ∧ s.params.echoMax ≠ 0 :=
  ⟨_, _, rfl, rfl, by decide⟩

/-- The shape of vector A8: the pair ends exactly at the bound, here 9. -/
theorem witness_AutobaudEndsAtTheFirstPair :
    ∃ (s : State) (polls : List Input) (before : List Byte), before = [0x55, 0, 0, 0, 0, 0x55, 0] ∧
      polls = List.replicate 24 readyPorts ∧
      s = { base .idle with
        params := { bounds with hsMax := 9 }, rx := before ++ 0x55 :: 0x55 :: [7],
        sched := startPorts 0 :: polls ++ [] } ∧
      s.fsm = .idle ∧ (startPorts 0).ready ∧ (startPorts 0).opStart = true ∧
      decodeRequest (startPorts 0).req = .autobaud ∧ (∀ i ∈ polls, i.ready) ∧
      hasConfPair (before ++ [0x55]) = false ∧ before.length + 2 ≤ s.params.hsMax.toNat ∧
      polls.length = 2 * (before.length + 2) + mismatches before + (if s.params.calAfterFinal then 1 else 0) :=
  ⟨_, _, _, rfl, rfl, rfl, by decide⟩

/-- Vector A10: the bound at 3, the last byte a first confirmation. -/
theorem witness_AutobaudGivesUpAtTheBound :
    ∃ (s : State) (polls : List Input) (bytes : List Byte), bytes = [0, 0, 0x55] ∧
      polls = List.replicate 9 readyPorts ∧
      s = { base .idle with
        params := { bounds with hsMax := 3 }, rx := bytes ++ [0x55], sched := startPorts 0 :: polls ++ [] } ∧
      s.fsm = .idle ∧ (startPorts 0).ready ∧ (startPorts 0).opStart = true ∧
      decodeRequest (startPorts 0).req = .autobaud ∧ (∀ i ∈ polls, i.ready) ∧ hasConfPair bytes = false ∧
      bytes.length = s.params.hsMax.toNat ∧ s.params.hsMax ≠ 0 ∧ polls.length = 1 + 2 * bytes.length + mismatches bytes :=
  ⟨_, _, _, rfl, rfl, rfl, by decide⟩

/-- Vector O14 with a step between its packets in which the host takes an arriving packet from the link. -/
theorem witness_OversampleIsTheTruncatedMean :
    ∃ (s : State) (ports : List Input),
      ports = [packetPorts 0xC08148, { readyPorts with arrivals := [0xC0, 0xA3, 0x10], hostTakes := 3 },
        packetPorts 0xC0A310] ∧
      s = { base .idle with sched := startPorts 0x800200C0 :: ports ++ readyPorts :: [] } ∧ s.fsm = .idle ∧
      (startPorts 0x800200C0).rst = false ∧ (startPorts 0x800200C0).opStart = true ∧
      decodeRequest (startPorts 0x800200C0).req = .decodeos 0xC0 2 ∧ (∀ i ∈ ports, i.rst = false) ∧
      readyPorts.rst = false ∧ (ports.filter (·.pktValid)).length = (2 : Byte).toNat ∧
      (∀ i, ports.getLast? = some i → i.pktValid = true) :=
  ⟨_, _, rfl, rfl, by decide, by decide, by decide, by decide, by decide, by decide, by decide, by
    intro i h; cases h; rfl⟩

end Sys2Proof.Tests
end

/-! The base case of the invariant (spec 10_state.md R40): a reset keeps the parameters and gives a state that meets
`State.Inv` whenever they are in range (R9). An idle sequencer and an empty poll counter discharge most of it, whatever
brought them about. -/

namespace Sys2Proof

/-- One more than an index below 65535 does not wrap in 16 bits. -/
theorem ofNat16_succ_ne_zero (n : Fin 65535) : BitVec.ofNat 16 (n.val + 1) ≠ 0 := by
  have bound : n.val < 65535 := n.isLt
  bv_omega

/-- The ranges of R9 hold at every value of the free bounds. -/
theorem Config.params_wf : Config.params.wf :=
  ⟨ofNat16_succ_ne_zero Config.hsMaxPred, ofNat16_succ_ne_zero Config.echoMaxPred⟩

end Sys2Proof

namespace Sys2Proof.Machine

/-! ## What an idle sequencer leaves of each unit's invariant -/

section Idle
variable {s : State}

theorem HandshakeInv.of_idle (idle : s.fsm = .idle) (flags : s.cfConf = true → s.rxConf = true) : HandshakeInv s where
  flags := flags
  tx0 h := by simp [idle] at h
  rx h := by simp [idle] at h
  txm h := by simp [idle] at h
  txa h := by simp [idle] at h

theorem CommandInv.of_idle (idle : s.fsm = .idle) : CommandInv s where
  tx h := by simp [idle] at h
  rx h := by simp [idle] at h

theorem OversampleInv.of_idle (idle : s.fsm = .idle) (sum : s.acc.toNat ≤ 1023 * s.succ.toNat)
    (channel : s.lastCh.toNat ≤ 3 ∨ s.lastCh = 0xFF) : OversampleInv s where
  sum := sum
  run h := by simp [idle] at h
  fin h := by simp [idle] at h
  channel := channel

end Idle

/-- A wait that has not begun is within its bound, and has no count where there is no bound (R70). -/
theorem PollInv.of_poll_zero {s : State} (zero : s.poll = 0) : PollInv s where
  unbounded _ := zero
  bounded nonzero := by rw [zero]; bv_omega

/-! ## The reset -/

/-- The reset values of the result registers are ones an operation can leave (R20, R31, R32). -/
theorem State.resetCore_resultInv (s : State) : ResultInv s.resetCore where
  value := by simp
  channel := .inl (by simp)
  sentinel h := by simp at h
  command := .inl (State.resetCore_resCmd s)

/-- A reset reaches the invariant from any state whose parameters are in range. -/
theorem State.resetCore_inv {s : State} (inRange : s.params.wf) : s.resetCore.Inv where
  fsm := rfl
  done _ := State.resetCore_fsm s
  params := inRange
  handshake := .of_idle (State.resetCore_fsm s) (by simp)
  command := .of_idle (State.resetCore_fsm s)
  poll := .of_poll_zero (State.resetCore_poll s)
  oversample := .of_idle (State.resetCore_fsm s) (by simp) (.inl (by simp))
  result := State.resetCore_resultInv s

/-- The state after reset is one a reset leaves as it is. -/
theorem State.resetCore_reset : State.reset.resetCore = State.reset := rfl

/-- Settles O51: the reset state is its own reset, and its parameters are in range. -/
theorem resetMeetsTheInvariant : Obligations.ResetMeetsTheInvariant := by
  unfold Obligations.ResetMeetsTheInvariant
  rw [← State.resetCore_reset]
  exact State.resetCore_inv Config.params_wf

end Sys2Proof.Machine

/-! ## The sequencer, rule by rule

`SequencerRule s t` lists every branch a step of the sequencer can take, each with its guard (spec 10_state.md R23, R70;
40_handshake.md R122 to R127; 41_command.md R158 to R160; 42_decode.md R181 to R184). The frames and the invariants are
read off this list. -/

namespace Sys2Proof.Machine

/-- The readiness that the wait state `fsm` awaits is absent (R67, R68, R70). -/
def State.Starved (s : State) : Prop :=
  (fsmTransmits s.fsm = true ∧ s.inp.transmitReady = false) ∨ (fsmReceives s.fsm = true ∧ s.rx = [])

/-- Every branch of the sequencer's step from `s`, with its guard and its effect. -/
inductive SequencerRule (s : State) : State → Prop
  /-- `IDLE` (R23, R34). -/
  | idle (fsm : s.fsm = .idle) : SequencerRule s s.hold
  /-- A wait without bound goes on (R70). -/
  | waitUnbounded (starved : s.Starved) (unbounded : s.params.pollMax = 0) : SequencerRule s s.hold
  /-- A wait within its bound is counted (R70). -/
  | waitCounted (starved : s.Starved) (bounded : s.params.pollMax ≠ 0) (within : s.poll ≠ s.params.pollMax - 1) :
      SequencerRule s { s with poll := s.poll + 1, done := false }
  /-- A wait at its bound ends with the timeout of its family (R70). -/
  | waitEnded (starved : s.Starved) (bounded : s.params.pollMax ≠ 0) (last : s.poll = s.params.pollMax - 1) :
      SequencerRule s (s.raise (fsmTimeout s.fsm))
  /-- `HS_TX0` sends (R122). -/
  | hsTx0Sent (fsm : s.fsm = .hsTx0) (ready : s.inp.transmitReady = true) :
      SequencerRule s ((s.send calByte).goto .hsRx)
  /-- `HS_RX` reads a first confirmation (R124). -/
  | hsRxFirst {rest : List Byte} (fsm : s.fsm = .hsRx) (read : s.rx = confByte :: rest) (first : s.rxConf = false) :
      SequencerRule s ({ s.consume with iter := s.iter + 1, rxConf := true }.goto .hsTxa)
  /-- `HS_RX` reads a second confirmation; one calibration byte is still to be sent (R124). -/
  | hsRxSecond {rest : List Byte} (fsm : s.fsm = .hsRx) (read : s.rx = confByte :: rest) (second : s.rxConf = true)
      (final : s.params.calAfterFinal = true) :
      SequencerRule s ({ s.consume with iter := s.iter + 1, rxConf := true, cfConf := true }.goto .hsTxa)
  /-- `HS_RX` reads a second confirmation, which ends the operation (R124). -/
  | hsRxFinished {rest : List Byte} (fsm : s.fsm = .hsRx) (read : s.rx = confByte :: rest) (second : s.rxConf = true)
      (final : s.params.calAfterFinal = false) :
      SequencerRule s { s.consume with iter := s.iter + 1, rxConf := true, cfConf := true }.complete
  /-- `HS_RX` reads any other byte (R125). -/
  | hsRxMismatched {b : Byte} {rest : List Byte} (fsm : s.fsm = .hsRx) (read : s.rx = b :: rest) (other : b ≠ confByte) :
      SequencerRule s ({ s.consume with iter := s.iter + 1, rxConf := false, cfConf := false }.goto .hsTxm)
  /-- `HS_TXM` sends (R126). -/
  | hsTxmSent (fsm : s.fsm = .hsTxm) (ready : s.inp.transmitReady = true) :
      SequencerRule s ((s.send calByte).goto .hsTxa)
  /-- `HS_TXA` sends and both flags are set (R127). -/
  | hsTxaSucceeded (fsm : s.fsm = .hsTxa) (ready : s.inp.transmitReady = true)
      (confirmed : (s.rxConf && s.cfConf) = true) : SequencerRule s (s.send calByte).complete
  /-- `HS_TXA` sends at the iteration bound (R127). -/
  | hsTxaGaveUp (fsm : s.fsm = .hsTxa) (ready : s.inp.transmitReady = true)
      (unconfirmed : (s.rxConf && s.cfConf) = false) (last : s.iter = s.params.hsMax) :
      SequencerRule s ((s.send calByte).raise .hsTimeout)
  /-- `HS_TXA` sends and the next iteration begins (R127). -/
  | hsTxaRepeated (fsm : s.fsm = .hsTxa) (ready : s.inp.transmitReady = true)
      (unconfirmed : (s.rxConf && s.cfConf) = false) (more : s.iter ≠ s.params.hsMax) :
      SequencerRule s ((s.send calByte).goto .hsRx)
  /-- `CT_TX` sends (R158). -/
  | ctTxSent (fsm : s.fsm = .ctTx) (ready : s.inp.transmitReady = true) :
      SequencerRule s ({ s.send s.cmdLat with tries := s.tries + 1 }.goto .ctRx)
  /-- `CT_RX` reads the echo (R160). -/
  | ctRxMatched {rest : List Byte} (fsm : s.fsm = .ctRx) (read : s.rx = s.cmdLat :: rest) :
      SequencerRule s s.consume.complete
  /-- `CT_RX` reads another byte at the bound (R160). -/
  | ctRxGaveUp {b : Byte} {rest : List Byte} (fsm : s.fsm = .ctRx) (read : s.rx = b :: rest) (other : b ≠ s.cmdLat)
      (last : s.tries = s.params.echoMax) : SequencerRule s (s.consume.raise .echoTimeout)
  /-- `CT_RX` reads another byte below the bound (R160). -/
  | ctRxRetried {b : Byte} {rest : List Byte} (fsm : s.fsm = .ctRx) (read : s.rx = b :: rest) (other : b ≠ s.cmdLat)
      (more : s.tries ≠ s.params.echoMax) : SequencerRule s (s.consume.goto .ctTx)
  /-- `OS_RUN` without a packet (R183). -/
  | osRunWaited (fsm : s.fsm = .osRun) (absent : s.inp.pktValid = false) : SequencerRule s s.hold
  /-- `OS_RUN` decodes a packet (R181). -/
  | osRunAttempted (fsm : s.fsm = .osRun) (present : s.inp.pktValid = true) :
      SequencerRule s (osAttempt (decPacket s.inp.pkt s.cmdLat) s)
  /-- `OS_FIN` (R184). -/
  | osFinished (fsm : s.fsm = .osFin) : SequencerRule s (s.setReading (meanReading s.acc s.succ s.lastCh)).complete

section Starved
variable {s : State} {err : Status}

theorem State.starved_of_transmit (transmits : fsmTransmits s.fsm = true) (unready : ¬s.inp.transmitReady = true) :
    s.Starved := .inl ⟨transmits, Bool.eq_false_iff.mpr unready⟩

theorem State.starved_of_receive (receives : fsmReceives s.fsm = true) (empty : s.rx = []) : s.Starved :=
  .inr ⟨receives, empty⟩

theorem State.Starved.fsm_ne_idle (starved : s.Starved) : s.fsm ≠ .idle := by
  intro idle
  simp [State.Starved, idle, fsmTransmits, fsmReceives] at starved

/-- A starved wait takes one of its three rules. -/
theorem SequencerRule.of_starved (starved : s.Starved) (family : fsmTimeout s.fsm = err) :
    SequencerRule s (s.pollWait err) := by
  subst family
  obtain ⟨unbounded, eq⟩ | ⟨bounded, last, eq⟩ | ⟨bounded, within, eq⟩ := pollWait_cases (fsmTimeout s.fsm) s
  · exact eq ▸ .waitUnbounded starved unbounded
  · exact eq ▸ .waitEnded starved bounded last
  · exact eq ▸ .waitCounted starved bounded within

end Starved

/-! ### Each state's step takes one of its rules -/

section Rules
variable {s : State}

theorem stepHsTx0_rule (fsm : s.fsm = .hsTx0) : SequencerRule s (stepHsTx0 s) := by
  unfold stepHsTx0
  split
  · exact .hsTx0Sent fsm ‹_›
  · exact .of_starved (State.starved_of_transmit (by rw [fsm]; rfl) ‹_›) (by rw [fsm]; rfl)

/-- Which of the three ends a confirmation has. -/
theorem stepHsMatch_rule {rest : List Byte} (fsm : s.fsm = .hsRx) (read : s.rx = confByte :: rest) :
    SequencerRule s (stepHsMatch s) := by
  unfold stepHsMatch confirmFlags
  cases stage : s.rxConf
  · exact .hsRxFirst fsm read stage
  · cases final : s.params.calAfterFinal
    · exact .hsRxFinished fsm read stage final
    · exact .hsRxSecond fsm read stage final

theorem stepHsRx_rule (fsm : s.fsm = .hsRx) : SequencerRule s (stepHsRx s) := by
  unfold stepHsRx
  split
  · exact .of_starved (State.starved_of_receive (by rw [fsm]; rfl) ‹_›) (by rw [fsm]; rfl)
  · rename_i b rest read
    split
    · subst b
      exact stepHsMatch_rule fsm read
    · exact .hsRxMismatched fsm read ‹_›

theorem stepHsTxm_rule (fsm : s.fsm = .hsTxm) : SequencerRule s (stepHsTxm s) := by
  unfold stepHsTxm
  split
  · exact .hsTxmSent fsm ‹_›
  · exact .of_starved (State.starved_of_transmit (by rw [fsm]; rfl) ‹_›) (by rw [fsm]; rfl)

theorem stepHsTxa_rule (fsm : s.fsm = .hsTxa) : SequencerRule s (stepHsTxa s) := by
  unfold stepHsTxa
  split
  · split
    · exact .hsTxaSucceeded fsm ‹_› ‹_›
    · have unconfirmed := Bool.eq_false_iff.mpr ‹_›
      split
      · exact .hsTxaGaveUp fsm ‹_› unconfirmed ‹_›
      · exact .hsTxaRepeated fsm ‹_› unconfirmed ‹_›
  · exact .of_starved (State.starved_of_transmit (by rw [fsm]; rfl) ‹_›) (by rw [fsm]; rfl)

theorem stepCtTx_rule (fsm : s.fsm = .ctTx) : SequencerRule s (stepCtTx s) := by
  unfold stepCtTx
  split
  · exact .ctTxSent fsm ‹_›
  · exact .of_starved (State.starved_of_transmit (by rw [fsm]; rfl) ‹_›) (by rw [fsm]; rfl)

theorem stepCtRx_rule (fsm : s.fsm = .ctRx) : SequencerRule s (stepCtRx s) := by
  unfold stepCtRx
  split
  · exact .of_starved (State.starved_of_receive (by rw [fsm]; rfl) ‹_›) (by rw [fsm]; rfl)
  · rename_i b rest read
    split
    · subst b
      exact .ctRxMatched fsm read
    · split
      · exact .ctRxGaveUp fsm read ‹_› ‹_›
      · exact .ctRxRetried fsm read ‹_› ‹_›

theorem stepOsRun_rule (fsm : s.fsm = .osRun) : SequencerRule s (stepOsRun s) := by
  unfold stepOsRun
  split
  · exact .osRunAttempted fsm ‹_›
  · exact .osRunWaited fsm (Bool.eq_false_iff.mpr ‹_›)

/-- The sequencer's step is one of the rules wherever `fsm` is named (R22, R23). -/
theorem sequencerStep_rule (named : fsmAssigned s.fsm = true) : SequencerRule s (sequencerStep s) := by
  unfold sequencerStep
  cases fsm : s.fsm with
  | idle => exact .idle fsm
  | hsTx0 => exact stepHsTx0_rule fsm
  | hsRx => exact stepHsRx_rule fsm
  | hsTxm => exact stepHsTxm_rule fsm
  | hsTxa => exact stepHsTxa_rule fsm
  | ctTx => exact stepCtTx_rule fsm
  | ctRx => exact stepCtRx_rule fsm
  | osRun => exact stepOsRun_rule fsm
  | osFin => exact .osFinished fsm
  | unassigned k => simp [fsm, fsmAssigned] at named

end Rules

/-! ### The step without a reset -/

/-- A step without reset that answers a next state accepts a request or takes one of the sequencer's rules. -/
theorem step_next_of_no_reset {s t : State} (next : step s = .next t) (noReset : s.seen.inp.rst = false) :
    (s.Accepts ∧ t = acceptEffect s.request s.seen) ∨ (¬s.Accepts ∧ SequencerRule s.seen t) := by
  obtain ⟨reset, -⟩ | accepted | ⟨-, notAccepted, named, rfl⟩ := step_next next
  · cases noReset.symm.trans reset
  · exact .inl accepted
  · refine .inr ⟨?_, sequencerStep_rule named⟩
    rintro ⟨-, idle, start⟩
    obtain busy | noStart := notAccepted
    · exact busy idle
    · cases noStart.symm.trans start

/-! ## What a rule or an acceptance leaves unchanged -/

section Frames
variable {s t : State}

theorem SequencerRule.params_eq (rule : SequencerRule s t) : t.params = s.params := by cases rule <;> rfl

/-- The sequencer writes no command latch (R24). -/
theorem SequencerRule.cmdLat_eq (rule : SequencerRule s t) : t.cmdLat = s.cmdLat := by cases rule <;> rfl

/-- The sequencer writes no `res_cmd` (R31). -/
theorem SequencerRule.resCmd_eq (rule : SequencerRule s t) : t.resCmd = s.resCmd := by cases rule <;> rfl

/-- The sequencer writes no `res_word` (R31). -/
theorem SequencerRule.resWord_eq (rule : SequencerRule s t) : t.resWord = s.resWord := by cases rule <;> rfl

/-- The sequencer writes the reading in `OS_FIN` only (R32). -/
theorem SequencerRule.reading_eq (rule : SequencerRule s t) :
    s.fsm = .osFin ∨ (t.resChannel = s.resChannel ∧ t.resValue = s.resValue ∧ t.resFailed = s.resFailed) := by
  cases rule with
  | osFinished fsm => exact .inl fsm
  | _ => exact .inr ⟨rfl, rfl, rfl⟩

/-- The sequencer writes the calibration flags and the count where `HS_RX` reads a byte only (R25, R26). -/
theorem SequencerRule.calibration_eq (rule : SequencerRule s t) :
    (s.fsm = .hsRx ∧ s.rx ≠ []) ∨ (t.rxConf = s.rxConf ∧ t.cfConf = s.cfConf ∧ t.iter = s.iter) := by
  cases rule with
  | hsRxFirst fsm read | hsRxSecond fsm read | hsRxFinished fsm read | hsRxMismatched fsm read =>
    exact .inl ⟨fsm, by simp [read]⟩
  | _ => exact .inr ⟨rfl, rfl, rfl⟩

theorem osAttempt_fsm (r : Reading) (s : State) : (osAttempt r s).fsm = if s.rem = 1 then .osFin else .osRun := rfl

/-- Every rule leads to a named state (R22). -/
theorem SequencerRule.keeps_fsmAssigned (rule : SequencerRule s t) (named : fsmAssigned s.fsm = true) :
    fsmAssigned t.fsm = true := by
  cases rule with
  | idle | waitUnbounded | waitCounted | osRunWaited => exact named
  | osRunAttempted => rw [osAttempt_fsm]; split <;> rfl
  | _ => rfl

/-- The sequencer writes `status` only where it completes (R34). -/
theorem SequencerRule.status_eq (rule : SequencerRule s t) : t.done = true ∨ t.status = s.status := by
  cases rule with
  | waitEnded | hsRxFinished | hsTxaSucceeded | hsTxaGaveUp | ctRxMatched | ctRxGaveUp | osFinished => exact .inl rfl
  | _ => exact .inr rfl

/-- The sequencer completes exactly where it leaves a busy state for `IDLE` (R34, R258). -/
theorem SequencerRule.done_iff (rule : SequencerRule s t) : t.done = true ↔ s.fsm ≠ .idle ∧ t.fsm = .idle := by
  cases rule with
  | idle fsm => simp [fsm]
  | waitUnbounded | waitCounted => simp
  | waitEnded starved => simp [starved.fsm_ne_idle]
  | osRunWaited fsm => simp [fsm]
  | osRunAttempted =>
    rw [osAttempt_fsm]
    simp only [osAttempt, State.goto_done]
    split <;> simp
  | hsRxFinished fsm | hsTxaSucceeded fsm | hsTxaGaveUp fsm | ctRxMatched fsm | ctRxGaveUp fsm | osFinished fsm =>
    simp [fsm]
  | _ => simp

end Frames

section Accept
variable (i : Instr) (s : State)

/-- Only PACK writes `res_cmd` (R31). -/
theorem acceptEffect_resCmd :
    (∃ pga mode vref inch, i = .pack pga mode vref inch) ∨ (acceptEffect i s).resCmd = s.resCmd := by
  cases i with
  | pack pga mode vref inch => exact .inl ⟨pga, mode, vref, inch, rfl⟩
  | _ => exact .inr rfl

/-- Only REVBITS writes `res_word` (R31). -/
theorem acceptEffect_resWord : (∃ arg, i = .revbits arg) ∨ (acceptEffect i s).resWord = s.resWord := by
  cases i with
  | revbits arg => exact .inl ⟨arg, rfl⟩
  | _ => exact .inr rfl

/-- Only DECODE writes the reading as it is accepted (R32). -/
theorem acceptEffect_reading :
    (∃ cmd, i = .decode cmd) ∨ ((acceptEffect i s).resChannel = s.resChannel ∧
      (acceptEffect i s).resValue = s.resValue ∧ (acceptEffect i s).resFailed = s.resFailed) := by
  cases i with
  | decode cmd => exact .inl ⟨cmd, rfl⟩
  | _ => exact .inr ⟨rfl, rfl, rfl⟩

/-- Only AUTOBAUD writes the calibration flags and the count as it is accepted (R25, R26). -/
theorem acceptEffect_calibration :
    i = .autobaud ∨ ((acceptEffect i s).rxConf = s.rxConf ∧ (acceptEffect i s).cfConf = s.cfConf ∧
      (acceptEffect i s).iter = s.iter) := by
  cases i with
  | autobaud => exact .inl rfl
  | _ => exact .inr ⟨rfl, rfl, rfl⟩

/-- Only SENDCMD and DECODEOS write the command latch, with their command (R24). -/
theorem acceptEffect_cmdLat :
    (i = .sendcmd (acceptEffect i s).cmdLat ∨ ∃ count, i = .decodeos (acceptEffect i s).cmdLat count) ∨
      (acceptEffect i s).cmdLat = s.cmdLat := by
  cases i with
  | sendcmd cmd => exact .inl (.inl rfl)
  | decodeos cmd count => exact .inl (.inr ⟨count, rfl⟩)
  | _ => exact .inr rfl

theorem acceptEffect_params : (acceptEffect i s).params = s.params := by cases i <;> rfl

/-- `done` after an accepting step says whether the request completes at once (R34, R93). -/
theorem acceptEffect_done {i : Instr} (request : i.format = .req) : (acceptEffect i s).done = i.completesAtOnce := by
  cases i with
  | cmd | resp1 | resp2 | cal | conf | failed | presync => cases request
  | _ => rfl

/-- An accepted request writes `status` only where it completes at once (R34). -/
theorem acceptEffect_status : i.completesAtOnce = true ∨ (acceptEffect i s).status = s.status := by
  cases i with
  | pack | decode | revbits | reserved6 | reserved7 => exact .inl rfl
  | _ => exact .inr rfl

variable {i s}

/-- A request that completes at once ends in `IDLE` (R93). -/
theorem acceptEffect_fsm_of_completesAtOnce (atOnce : i.completesAtOnce = true) : (acceptEffect i s).fsm = .idle := by
  cases i with
  | pack | decode | revbits | reserved6 | reserved7 => rfl
  | _ => cases atOnce

/-- An accepting step leads to a named state (R22). -/
theorem acceptEffect_fsmAssigned (named : fsmAssigned s.fsm = true) : fsmAssigned (acceptEffect i s).fsm = true := by
  cases i with
  | cmd | resp1 | resp2 | cal | conf | failed | presync => exact named
  | decodeos cmd count =>
    change fsmAssigned (if count = 0 then Fsm.osFin else Fsm.osRun) = true
    split <;> rfl
  | _ => rfl

end Accept

/-! ## The statements on which register a step writes -/

/-- Settles O45: in an accepting step by the request, else by the sequencer's rule. -/
theorem resultsAreWrittenByTheirOwnOperations : Obligations.ResultsAreWrittenByTheirOwnOperations := by
  unfold Obligations.ResultsAreWrittenByTheirOwnOperations
  intro s t next noReset
  obtain ⟨accepts, rfl⟩ | ⟨-, rule⟩ := step_next_of_no_reset next noReset
  · exact ⟨fun ne => ⟨accepts, (acceptEffect_resCmd s.request s.seen).resolve_right ne⟩,
      fun ne => ⟨accepts, (acceptEffect_resWord s.request s.seen).resolve_right ne⟩,
      fun ne => .inl ⟨accepts, (acceptEffect_reading s.request s.seen).resolve_right ne⟩⟩
  · exact ⟨fun ne => absurd rule.resCmd_eq ne, fun ne => absurd rule.resWord_eq ne,
      fun ne => .inr (rule.reading_eq.resolve_right ne)⟩

/-- Settles O46. -/
theorem calibrationFlagsBelongToTheHandshake : Obligations.CalibrationFlagsBelongToTheHandshake := by
  unfold Obligations.CalibrationFlagsBelongToTheHandshake
  intro s t next noReset changed
  obtain ⟨accepts, rfl⟩ | ⟨-, rule⟩ := step_next_of_no_reset next noReset
  · exact .inl ⟨accepts, (acceptEffect_calibration s.request s.seen).resolve_right changed⟩
  · exact .inr (rule.calibration_eq.resolve_right changed)

/-- Settles O47. -/
theorem commandLatchIsWrittenOnlyAtAcceptance : Obligations.CommandLatchIsWrittenOnlyAtAcceptance := by
  unfold Obligations.CommandLatchIsWrittenOnlyAtAcceptance
  intro s t next noReset changed
  obtain ⟨accepts, rfl⟩ | ⟨-, rule⟩ := step_next_of_no_reset next noReset
  · exact ⟨accepts, (acceptEffect_cmdLat s.request s.seen).resolve_right changed⟩
  · exact absurd rule.cmdLat_eq changed

/-- Settles O43: an accepting step starts in `IDLE` and completes exactly the requests of one step; a rule of the
sequencer completes exactly where it leaves a busy state for `IDLE`. -/
theorem statusIsWrittenOnlyOnCompletion : Obligations.StatusIsWrittenOnlyOnCompletion := by
  unfold Obligations.StatusIsWrittenOnlyOnCompletion
  intro s t next noReset
  obtain ⟨accepts, rfl⟩ | ⟨notAccepts, rule⟩ := step_next_of_no_reset next noReset
  · have idle : s.fsm = .idle := accepts.2.1
    have done : (acceptEffect s.request s.seen).done = s.request.completesAtOnce :=
      acceptEffect_done s.seen (decodeRequest_format s.seen.inp.req)
    rw [done]
    refine ⟨fun notAtOnce => ?_, acceptEffect_fsm_of_completesAtOnce, by simp [idle, accepts]⟩
    exact (acceptEffect_status s.request s.seen).resolve_left (by simp [notAtOnce])
  · refine ⟨fun notDone => rule.status_eq.resolve_left (by simp [notDone]), fun done => (rule.done_iff.mp done).2, ?_⟩
    simpa [notAccepts] using rule.done_iff

/-! ## The statements on the step's outcome -/

/-- Settles O11: without a start the step is the sequencer's; with one, a busy core loses the request. -/
theorem stepWithoutAcceptanceIsTheSequencers : Obligations.StepWithoutAcceptanceIsTheSequencers := by
  unfold Obligations.StepWithoutAcceptanceIsTheSequencers
  intro s noReset noIntrusion notAccepted
  cases start : s.seen.inp.opStart with
  | false => exact step_of_no_request noReset noIntrusion start
  | true =>
    have busy : s.seen.fsm ≠ .idle := notAccepted.resolve_left (fun noStart => absurd start (Bool.eq_false_iff.mp noStart))
    rw [step_of_request noReset noIntrusion start, present_busy busy]

/-- The sequencer does not stop where `fsm` is named. -/
theorem advance_of_assigned {s : State} (named : fsmAssigned s.fsm = true) : advance s = .next (sequencerStep s) := by
  rw [advance_eq, if_pos named]

/-- A presented request does not stop a machine whose `fsm` is named. -/
theorem present_ne_fault {s : State} (named : fsmAssigned s.fsm = true) (effect : State → State) (r : Fault) :
    present effect s ≠ .fault r := by
  by_cases idle : s.fsm = .idle
  · simp [present_idle idle]
  · simp [present_busy idle, advance_of_assigned named]

/-- The step does not stop where `fsm` is named. -/
theorem step_ne_fault {s : State} (named : fsmAssigned s.fsm = true) (r : Fault) : step s ≠ .fault r := by
  rw [step_eq]
  split
  · simp
  · split
    · simp
    · split
      · exact present_ne_fault (s := s.seen) named _ r
      · simp [advance_of_assigned (s := s.seen) named]

/-- Every step from a named state leads to a named state. -/
theorem step_fsmAssigned {s t : State} (named : fsmAssigned s.fsm = true) (next : step s = .next t) :
    fsmAssigned t.fsm = true := by
  obtain ⟨-, rfl⟩ | ⟨-, rfl⟩ | ⟨-, -, -, rfl⟩ := step_next next
  · rfl
  · exact acceptEffect_fsmAssigned named
  · exact (sequencerStep_rule (s := s.seen) named).keeps_fsmAssigned named

/-- Settles O52. -/
theorem namedSequencerStatesNeverFault : Obligations.NamedSequencerStatesNeverFault := by
  unfold Obligations.NamedSequencerStatesNeverFault
  exact fun s named => ⟨step_ne_fault named, fun t => step_fsmAssigned named⟩

/-- Settles O13. -/
theorem resetStepResetsEveryRegister : Obligations.ResetStepResetsEveryRegister := by
  unfold Obligations.ResetStepResetsEveryRegister
  intro s reset
  rw [step_eq, if_pos reset]
  rfl

/-- Settles O14: the table's values, register by register. -/
theorem resetStateHoldsTheTableValues : Obligations.ResetStateHoldsTheTableValues := by
  unfold Obligations.ResetStateHoldsTheTableValues
  exact ⟨rfl, rfl, rfl, rfl, rfl, rfl, rfl, rfl, rfl⟩

/-- `IDLE` waits (R23). -/
theorem advance_idle {s : State} (idle : s.fsm = .idle) : advance s = .next s.hold := by
  simp only [advance, idle]

/-- Settles O32. -/
theorem idleHolds : Obligations.IdleHolds := by
  unfold Obligations.IdleHolds
  exact fun s => advance_idle

/-- The host cannot intrude on a state in which the core does not use the transport (R250 (b)). -/
theorem State.hostIntrudes_of_unassigned {s : State} {k : Fin 7} (stuck : s.fsm = .unassigned k) :
    s.hostIntrudes = false := by
  simp [State.hostIntrudes, stuck, fsmInHandshake, fsmInCommand]

/-- Settles O53: nothing is accepted there, and the sequencer has no rule. -/
theorem unassignedSequencerStateIsStuck : Obligations.UnassignedSequencerStateIsStuck := by
  unfold Obligations.UnassignedSequencerStateIsStuck
  intro s k stuck noReset
  have noIntrusion : s.sample.hostIntrudes = false := State.hostIntrudes_of_unassigned stuck
  have sequencers := stepWithoutAcceptanceIsTheSequencers s noReset noIntrusion (.inr (by simp [stuck]))
  rw [sequencers, advance_eq, seen_fsm, stuck]
  rfl

/-! ## The invariant

Each unit's invariant is kept by every rule of the sequencer and by every accepting step; the rules and requests of the
other units leave its registers and lead outside its states. -/

/-! ### What a state outside a unit leaves of its invariant -/

section Outside
variable {t : State}

theorem HandshakeInv.of_outside (outside : fsmInHandshake t.fsm = false) (flags : t.cfConf = true → t.rxConf = true) :
    HandshakeInv t where
  flags := flags
  tx0 fsm := by simp [fsm, fsmInHandshake] at outside
  rx fsm := by simp [fsm, fsmInHandshake] at outside
  txm fsm := by simp [fsm, fsmInHandshake] at outside
  txa fsm := by simp [fsm, fsmInHandshake] at outside

theorem CommandInv.of_outside (outside : fsmInCommand t.fsm = false) : CommandInv t where
  tx fsm := by simp [fsm, fsmInCommand] at outside
  rx fsm := by simp [fsm, fsmInCommand] at outside

theorem OversampleInv.of_outside (notRun : t.fsm ≠ .osRun) (notFin : t.fsm ≠ .osFin)
    (sum : t.acc.toNat ≤ 1023 * t.succ.toNat) (channel : t.lastCh.toNat ≤ 3 ∨ t.lastCh = 0xFF) : OversampleInv t where
  sum := sum
  run fsm := absurd fsm notRun
  fin fsm := absurd fsm notFin
  channel := channel

/-- DECODEOS's next state is outside the other two units. -/
theorem osNext_outside (last : Prop) [Decidable last] :
    fsmInHandshake (if last then Fsm.osFin else .osRun) = false ∧
      fsmInCommand (if last then Fsm.osFin else .osRun) = false := by
  split <;> exact ⟨rfl, rfl⟩

end Outside

/-! ### Counters -/

/-- A counter below its bound is counted without wrapping, up to the bound. -/
theorem toNat_succ_of_lt {n bound : BitVec 16} (below : n.toNat < bound.toNat) : (n + 1).toNat = n.toNat + 1 := by
  bv_omega

/-- A counter within its bound and not at it is below it. -/
theorem toNat_lt_of_le_of_ne {n bound : BitVec 16} (within : n.toNat ≤ bound.toNat) (ne : n ≠ bound) :
    n.toNat < bound.toNat := Nat.lt_of_le_of_ne within (BitVec.toNat_ne_iff_ne.mpr ne)

/-- A bound that is not 0 leaves room for a first count. -/
theorem toNat_zero_lt {bound : BitVec 16} (ne : bound ≠ 0) : (0 : BitVec 16).toNat < bound.toNat := by
  bv_omega

/-! ### The handshake -/

/-- Two flags that are not both set, where the second implies the first. -/
theorem HandshakeInv.cfConf_eq_false {s : State} (inv : HandshakeInv s) (unconfirmed : (s.rxConf && s.cfConf) = false) :
    s.cfConf = false := by
  have flags := inv.flags
  cases second : s.cfConf with
  | false => rfl
  | true => simp [second, flags second] at unconfirmed

section Handshake
variable {s t : State}

/-- After a byte is read the count is positive and within `HS_MAX` (R26). -/
theorem HandshakeInv.iter_counted (inv : HandshakeInv s) (fsm : s.fsm = .hsRx) :
    0 < (s.iter + 1).toNat ∧ (s.iter + 1).toNat ≤ s.params.hsMax.toNat := by
  obtain ⟨-, below⟩ := inv.rx fsm
  rw [toNat_succ_of_lt below]
  omega

/-- Every rule keeps the handshake's invariant. -/
theorem SequencerRule.handshakeInv (rule : SequencerRule s t) (inRange : s.params.wf) (inv : HandshakeInv s) :
    HandshakeInv t := by
  cases rule with
  | idle | waitUnbounded | waitCounted | osRunWaited => exact ⟨inv.flags, inv.tx0, inv.rx, inv.txm, inv.txa⟩
  | hsTx0Sent fsm =>
    obtain ⟨-, second, none⟩ := inv.tx0 fsm
    have room : s.iter.toNat < s.params.hsMax.toNat := none ▸ toNat_zero_lt inRange.1
    exact ⟨inv.flags, nofun, fun _ => ⟨second, room⟩, nofun, nofun⟩
  | hsRxFirst fsm =>
    obtain ⟨positive, within⟩ := inv.iter_counted fsm
    obtain ⟨second, -⟩ := inv.rx fsm
    exact ⟨fun _ => rfl, nofun, nofun, nofun, fun _ => ⟨positive, within, fun set => by cases second.symm.trans set⟩⟩
  | hsRxSecond fsm _ _ final =>
    obtain ⟨positive, within⟩ := inv.iter_counted fsm
    exact ⟨fun _ => rfl, nofun, nofun, nofun, fun _ => ⟨positive, within, fun _ => final⟩⟩
  | hsRxFinished => exact .of_outside rfl fun _ => rfl
  | hsRxMismatched fsm =>
    obtain ⟨positive, within⟩ := inv.iter_counted fsm
    exact ⟨nofun, nofun, nofun, fun _ => ⟨rfl, rfl, positive, within⟩, nofun⟩
  | hsTxmSent fsm =>
    obtain ⟨-, second, positive, within⟩ := inv.txm fsm
    exact ⟨inv.flags, nofun, nofun, nofun, fun _ => ⟨positive, within, fun set => by cases second.symm.trans set⟩⟩
  | hsTxaRepeated fsm _ unconfirmed more =>
    obtain ⟨-, within, -⟩ := inv.txa fsm
    have second := inv.cfConf_eq_false unconfirmed
    exact ⟨inv.flags, nofun, fun _ => ⟨second, toNat_lt_of_le_of_ne within more⟩, nofun, nofun⟩
  | osRunAttempted => exact .of_outside (osNext_outside _).1 inv.flags
  | waitEnded | hsTxaSucceeded | hsTxaGaveUp | ctTxSent | ctRxMatched | ctRxGaveUp | ctRxRetried | osFinished =>
    exact .of_outside rfl inv.flags

/-- Every accepting step keeps the handshake's invariant. -/
theorem acceptEffect_handshakeInv (i : Instr) (inv : HandshakeInv s) : HandshakeInv (acceptEffect i s) := by
  cases i with
  | autobaud => exact ⟨nofun, fun _ => ⟨rfl, rfl, rfl⟩, nofun, nofun, nofun⟩
  | decodeos => exact .of_outside (osNext_outside _).1 inv.flags
  | pack | sendcmd | decode | revbits | reserved6 | reserved7 => exact .of_outside rfl inv.flags
  | cmd | resp1 | resp2 | cal | conf | failed | presync => exact inv

end Handshake

/-! ### The command unit -/

section Command
variable {s t : State}

/-- Every rule keeps the command unit's invariant. -/
theorem SequencerRule.commandInv (rule : SequencerRule s t) (inv : CommandInv s) : CommandInv t := by
  cases rule with
  | idle | waitUnbounded | waitCounted | osRunWaited => exact ⟨inv.tx, inv.rx⟩
  | ctTxSent fsm =>
    have below := inv.tx fsm
    have counted := toNat_succ_of_lt below
    exact ⟨nofun, fun _ => (by omega : 0 < (s.tries + 1).toNat ∧ (s.tries + 1).toNat ≤ s.params.echoMax.toNat)⟩
  | ctRxRetried fsm _ _ more =>
    obtain ⟨-, within⟩ := inv.rx fsm
    exact ⟨fun _ => toNat_lt_of_le_of_ne within more, nofun⟩
  | osRunAttempted => exact .of_outside (osNext_outside _).2
  | _ => exact .of_outside rfl

/-- Every accepting step keeps the command unit's invariant. -/
theorem acceptEffect_commandInv (i : Instr) (inRange : s.params.wf) (inv : CommandInv s) :
    CommandInv (acceptEffect i s) := by
  cases i with
  | sendcmd => exact ⟨fun _ => toNat_zero_lt inRange.2, nofun⟩
  | decodeos => exact .of_outside (osNext_outside _).2
  | autobaud | pack | decode | revbits | reserved6 | reserved7 => exact .of_outside rfl
  | cmd | resp1 | resp2 | cal | conf | failed | presync => exact inv

end Command

/-! ### The poll counter -/

section Poll
variable {s t : State}

/-- Every rule keeps the poll counter within its bound: the last count before the bound ends the wait. -/
theorem SequencerRule.pollInv (rule : SequencerRule s t) (inv : PollInv s) : PollInv t := by
  cases rule with
  | waitCounted _ bounded within =>
    have below := inv.bounded bounded
    refine ⟨fun unbounded => absurd unbounded bounded, fun _ => ?_⟩
    change (s.poll + 1).toNat < s.params.pollMax.toNat
    bv_omega
  | idle | waitUnbounded | waitEnded | osRunWaited | osRunAttempted | osFinished => exact ⟨inv.unbounded, inv.bounded⟩
  | _ => exact .of_poll_zero rfl

/-- Every accepting step keeps the poll counter within its bound. -/
theorem acceptEffect_pollInv (i : Instr) (inv : PollInv s) : PollInv (acceptEffect i s) := by
  cases i with
  | autobaud | sendcmd => exact .of_poll_zero rfl
  | _ => exact ⟨inv.unbounded, inv.bounded⟩

end Poll

/-! ### Readings -/

/-- A reading the result registers may hold (R32, R172, R175). -/
structure Reading.InRange (r : Reading) : Prop where
  value : r.value.toNat ≤ 1023
  channel : r.channel.toNat ≤ 3 ∨ r.channel = 0xFF
  sentinel : r.failed = true → r = failedReading

theorem failedReading_inRange : failedReading.InRange := ⟨by decide, .inr rfl, fun _ => rfl⟩

/-- A decode yields a reading in range. -/
theorem decPacket_inRange (p : Packet) (k : Byte) : (decPacket p k).InRange :=
  ⟨dec_value .., dec_channel .., dec_failed⟩

/-- The mean of a bounded sum is in range (R184, R191). -/
theorem meanReading_inRange {s : State} (inv : OversampleInv s) : (meanReading s.acc s.succ s.lastCh).InRange := by
  by_cases none : s.succ = 0
  · rw [meanReading, if_pos none]
    exact failedReading_inRange
  · obtain ⟨value, bound⟩ := mean_bounds s.lastCh none inv.sum
    refine ⟨value ▸ bound, ?_, ?_⟩ <;> rw [meanReading, if_neg none]
    · exact inv.channel
    · nofun

/-- A completed reading in range keeps the results in range. -/
theorem ResultInv.setReading {s : State} {r : Reading} (inRange : r.InRange) (inv : ResultInv s) :
    ResultInv (s.setReading r).complete where
  value := inRange.value
  channel := inRange.channel
  sentinel failed := by
    have isFailed := inRange.sentinel failed
    subst isFailed
    exact ⟨rfl, rfl⟩
  command := inv.command

/-- What PACK builds has the fixed bits of a command byte (R96, R151). -/
theorem packByte_form (pga : Gain) (mode : Mode) (vref : Vref) (inch : BitVec 2) :
    packByte pga mode vref inch &&& 0xC2 = 0xC0 := by
  cases pga <;> cases mode <;> cases vref <;> revert inch <;> decide

section Result
variable {s t : State}

/-- Every rule keeps the results in range. -/
theorem SequencerRule.resultInv (rule : SequencerRule s t) (sum : OversampleInv s) (inv : ResultInv s) :
    ResultInv t := by
  cases rule with
  | osFinished => exact inv.setReading (meanReading_inRange sum)
  | _ => exact ⟨inv.value, inv.channel, inv.sentinel, inv.command⟩

/-- Every accepting step keeps the results in range. -/
theorem acceptEffect_resultInv (i : Instr) (inv : ResultInv s) : ResultInv (acceptEffect i s) := by
  cases i with
  | pack pga mode vref inch => exact ⟨inv.value, inv.channel, inv.sentinel, .inr (packByte_form pga mode vref inch)⟩
  | decode cmd => exact inv.setReading (decPacket_inRange s.inp.pkt cmd)
  | _ => exact ⟨inv.value, inv.channel, inv.sentinel, inv.command⟩

end Result

/-! ### Oversampling -/

section Oversample
variable {s t : State}

theorem osNext_eq_osRun {last : Prop} [Decidable last] : (if last then Fsm.osFin else .osRun) = .osRun ↔ ¬last := by
  split <;> simp [*]

theorem osNext_eq_osFin {last : Prop} [Decidable last] : (if last then Fsm.osFin else .osRun) = .osFin ↔ last := by
  split <;> simp [*]

theorem osAttempt_rem (r : Reading) (s : State) : (osAttempt r s).rem = s.rem - 1 := rfl

/-- One more sample of at most 1023 wraps neither the sum nor the count (R29, R30). -/
theorem sum_counted {acc : BitVec 18} {succ : BitVec 8} {value : Half} (bounded : value.toNat ≤ 1023)
    (room : succ.toNat < 255) (sum : acc.toNat ≤ 1023 * succ.toNat) :
    (succ + 1).toNat = succ.toNat + 1 ∧ (acc + value.setWidth 18).toNat ≤ 1023 * (succ + 1).toNat := by
  have count : (succ + 1).toNat = succ.toNat + 1 := by bv_omega
  have width : (value.setWidth 18).toNat = value.toNat := by
    rw [BitVec.toNat_setWidth]
    exact Nat.mod_eq_of_lt (by omega)
  have noWrap : acc.toNat + value.toNat < 2 ^ 18 := by omega
  rw [count, BitVec.toNat_add, width, Nat.mod_eq_of_lt noWrap]
  omega

/-- One attempt counts at most one sample and keeps the sum bounded by the counted ones (R181, R182, R191). -/
theorem osAttempt_sum {r : Reading} (bounded : r.value.toNat ≤ 1023) (room : s.succ.toNat < 255)
    (sum : s.acc.toNat ≤ 1023 * s.succ.toNat) :
    (osAttempt r s).succ.toNat ≤ s.succ.toNat + 1 ∧
      (osAttempt r s).acc.toNat ≤ 1023 * (osAttempt r s).succ.toNat := by
  cases count : counted s.params r with
  | true =>
    obtain ⟨succ, acc⟩ := sum_counted bounded room sum
    simpa [osAttempt, count] using ⟨succ.le, acc⟩
  | false => simpa [osAttempt, count] using sum

/-- An attempt takes one of the samples still to come, so what it counts still fits 8 bits (R30). -/
theorem osAttempt_oversampleInv {r : Reading} (inRange : r.InRange) (fsm : s.fsm = .osRun) (inv : OversampleInv s) :
    OversampleInv (osAttempt r s) := by
  obtain ⟨positive, fits⟩ := inv.run fsm
  obtain ⟨count, sum⟩ := osAttempt_sum (s := s) inRange.value (by omega) inv.sum
  refine ⟨sum, fun running => ?_, fun finished => ?_, inRange.channel⟩
  · have more : s.rem ≠ 1 := osNext_eq_osRun.mp running
    rw [osAttempt_rem]
    have taken : (s.rem - 1).toNat = s.rem.toNat - 1 := by bv_omega
    have left : s.rem.toNat ≠ 1 := by bv_omega
    omega
  · have last : s.rem = 1 := osNext_eq_osFin.mp finished
    rw [osAttempt_rem, last]
    rfl

/-- Every rule keeps the invariant of DECODEOS. -/
theorem SequencerRule.oversampleInv (rule : SequencerRule s t) (inv : OversampleInv s) : OversampleInv t := by
  cases rule with
  | idle | waitUnbounded | waitCounted | osRunWaited => exact ⟨inv.sum, inv.run, inv.fin, inv.channel⟩
  | osRunAttempted fsm => exact osAttempt_oversampleInv (decPacket_inRange ..) fsm inv
  | _ => exact .of_outside nofun nofun inv.sum inv.channel

/-- Accepting a DECODEOS clears the sum and enters `OS_RUN` with its count of samples, `OS_FIN` with none (R180). -/
theorem acceptDecodeos_oversampleInv (cmd count : Byte) (s : State) : OversampleInv (acceptDecodeos cmd count s) where
  sum := Nat.zero_le _
  run running := by
    have some : count ≠ 0 := osNext_eq_osRun.mp running
    change 0 < count.toNat ∧ (0 : BitVec 8).toNat + count.toNat ≤ 255
    bv_omega
  fin finished := osNext_eq_osFin.mp finished
  channel := .inr rfl

/-- Every accepting step keeps the invariant of DECODEOS. -/
theorem acceptEffect_oversampleInv (i : Instr) (inv : OversampleInv s) : OversampleInv (acceptEffect i s) := by
  cases i with
  | decodeos cmd count => exact acceptDecodeos_oversampleInv cmd count s
  | autobaud | pack | sendcmd | decode | revbits | reserved6 | reserved7 =>
    exact .of_outside nofun nofun inv.sum inv.channel
  | cmd | resp1 | resp2 | cal | conf | failed | presync => exact inv

end Oversample

/-! ### The whole invariant -/

section Whole
variable {s t : State}

/-- The invariant speaks of no port and no stream. -/
theorem State.Inv.seen (inv : s.Inv) : s.seen.Inv where
  fsm := inv.fsm
  done := inv.done
  params := inv.params
  handshake := ⟨inv.handshake.flags, inv.handshake.tx0, inv.handshake.rx, inv.handshake.txm, inv.handshake.txa⟩
  command := ⟨inv.command.tx, inv.command.rx⟩
  poll := ⟨inv.poll.unbounded, inv.poll.bounded⟩
  oversample := ⟨inv.oversample.sum, inv.oversample.run, inv.oversample.fin, inv.oversample.channel⟩
  result := ⟨inv.result.value, inv.result.channel, inv.result.sentinel, inv.result.command⟩

theorem SequencerRule.keeps_inv (rule : SequencerRule s t) (inv : s.Inv) : t.Inv where
  fsm := rule.keeps_fsmAssigned inv.fsm
  done done := (rule.done_iff.mp done).2
  params := rule.params_eq ▸ inv.params
  handshake := rule.handshakeInv inv.params inv.handshake
  command := rule.commandInv inv.command
  poll := rule.pollInv inv.poll
  oversample := rule.oversampleInv inv.oversample
  result := rule.resultInv inv.oversample inv.result

theorem acceptEffect_keeps_inv {i : Instr} (request : i.format = .req) (inv : s.Inv) : (acceptEffect i s).Inv where
  fsm := acceptEffect_fsmAssigned inv.fsm
  done done := acceptEffect_fsm_of_completesAtOnce (acceptEffect_done s request ▸ done)
  params := acceptEffect_params i s ▸ inv.params
  handshake := acceptEffect_handshakeInv i inv.handshake
  command := acceptEffect_commandInv i inv.params inv.command
  poll := acceptEffect_pollInv i inv.poll
  oversample := acceptEffect_oversampleInv i inv.oversample
  result := acceptEffect_resultInv i inv.result

end Whole

/-- Settles O50: a reset reaches the invariant, and an accepting step and each rule of the sequencer keep every unit's
part of it. -/
theorem stepKeepsTheInvariant : Obligations.StepKeepsTheInvariant := by
  unfold Obligations.StepKeepsTheInvariant
  intro s t inv next
  have seen := inv.seen
  obtain ⟨-, rfl⟩ | ⟨-, rfl⟩ | ⟨-, -, named, rfl⟩ := step_next next
  · exact State.resetCore_inv seen.params
  · exact acceptEffect_keeps_inv (decodeRequest_format _) seen
  · exact (sequencerStep_rule (s := s.seen) named).keeps_inv seen

end Sys2Proof.Machine

/-! ## The transport streams (spec 20_memory.md)

What a step does to `RX` and `TX`: the arrival of a byte row (R62), the core's own strobes (R67, R68), the waits on the
transport and their bound (R70), and the packet port, which only the decoders read (R66). -/

namespace Sys2Proof.Machine

/-! ### A wait on the transport (R70) -/

section Wait
variable {s : State}

/-- A wait without bound goes on. -/
theorem State.pollWait_unbounded (unbounded : s.params.pollMax = 0) (err : Status) : s.pollWait err = s.hold :=
  if_pos unbounded

/-- A wait whose last allowed step this is ends. -/
theorem State.pollWait_last (last : s.poll.toNat + 1 = s.params.pollMax.toNat) (err : Status) :
    s.pollWait err = s.raise err := by
  have bounded : s.params.pollMax ≠ 0 := by bv_omega
  have atBound : s.poll = s.params.pollMax - 1 := by bv_omega
  rw [State.pollWait, if_neg bounded, if_pos atBound]

/-- A wait that has further steps is counted. -/
theorem State.pollWait_counted (below : s.poll.toNat + 1 < s.params.pollMax.toNat) (err : Status) :
    s.pollWait err = { s with poll := s.poll + 1, done := false } := by
  have bounded : s.params.pollMax ≠ 0 := by bv_omega
  have notLast : s.poll ≠ s.params.pollMax - 1 := by bv_omega
  rw [State.pollWait, if_neg bounded, if_neg notLast]

/-- Every transmit state waits while the transport is not ready (R122, R126, R127, R158). -/
theorem sequencerStep_of_unready (transmits : fsmTransmits s.fsm = true) (unready : s.inp.transmitReady = false) :
    sequencerStep s = s.pollWait (fsmTimeout s.fsm) := by
  cases fsm : s.fsm with
  | hsTx0 | hsTxm | hsTxa | ctTx =>
    simp [sequencerStep, fsm, stepHsTx0, stepHsTxm, stepHsTxa, stepCtTx, unready, fsmTimeout, fsmInCommand]
  | _ => simp [fsm, fsmTransmits] at transmits

/-- Every receive state waits while `RX` is empty (R123, R159). -/
theorem sequencerStep_of_empty (receives : fsmReceives s.fsm = true) (empty : s.rx = []) :
    sequencerStep s = s.pollWait (fsmTimeout s.fsm) := by
  cases fsm : s.fsm with
  | hsRx | ctRx => simp [sequencerStep, fsm, stepHsRx, stepCtRx, empty, fsmTimeout, fsmInCommand]
  | _ => simp [fsm, fsmReceives] at receives

theorem State.Starved.fsmAssigned (starved : s.Starved) : fsmAssigned s.fsm = true := by
  cases fsm : s.fsm with
  | unassigned k => simp [State.Starved, fsm, fsmTransmits, fsmReceives] at starved
  | _ => rfl

/-- A starved wait takes the poll rule with the timeout of its family. -/
theorem State.Starved.advance_eq (starved : s.Starved) : advance s = .next (s.pollWait (fsmTimeout s.fsm)) := by
  rw [advance_of_assigned starved.fsmAssigned]
  obtain ⟨transmits, unready⟩ | ⟨receives, empty⟩ := starved
  · rw [sequencerStep_of_unready transmits unready]
  · rw [sequencerStep_of_empty receives empty]

/-- The states the poll bound speaks of, by the two predicates on `fsm`. -/
theorem State.starved_iff_mem :
    s.Starved ↔ (s.fsm ∈ [Fsm.hsTx0, .hsTxm, .hsTxa, .ctTx] ∧ s.inp.transmitReady = false) ∨
      (s.fsm ∈ [Fsm.hsRx, .ctRx] ∧ s.rx = []) := by
  simp [State.Starved, fsmTransmits, fsmReceives, or_assoc]

theorem fsmTimeout_eq_mem (f : Fsm) :
    fsmTimeout f = if f ∈ [Fsm.ctTx, .ctRx] then .echoTimeout else .hsTimeout := by
  simp [fsmTimeout, fsmInCommand]

end Wait

/-- Settles O33: the three things a starved wait can do, in the order in which the rule tests for them. -/
theorem pollBoundEndsAWait : Obligations.PollBoundEndsAWait := by
  unfold Obligations.PollBoundEndsAWait
  intro s readinessAbsent
  rw [(State.starved_iff_mem.mpr readinessAbsent).advance_eq, ← fsmTimeout_eq_mem]
  obtain ⟨unbounded, eq⟩ | ⟨bounded, last, eq⟩ | ⟨bounded, within, eq⟩ := pollWait_cases (fsmTimeout s.fsm) s
  · rw [eq, if_neg (fun h => h.1 unbounded), if_neg (not_not_intro unbounded)]
    rfl
  · rw [eq, if_pos ⟨bounded, last⟩]
    rfl
  · rw [eq, if_neg (fun h => within h.2), if_pos bounded]

/-! ### Silent steps (R70, R251) -/

section Silence
variable {s : State} {i : Input} {rest : List Input}

/-- The next scheduled input is the one a step samples. -/
theorem State.sample_inp_of_sched (sched : s.sched = i :: rest) : s.sample.inp = i := by
  simp [State.sample_inp, sched]

theorem hostActive_of_silent (silent : i.silent) : i.hostActive = false := by
  obtain ⟨-, -, takes, sends, -⟩ := silent
  simp [Input.hostActive, takes, sends]

theorem State.hostIntrudes_of_inactive (inactive : s.inp.hostActive = false) : s.hostIntrudes = false := by
  simp [State.hostIntrudes, inactive]

/-- In a silent step the other agents leave the streams as they are. -/
theorem State.environment_of_silent (silent : s.inp.silent) : s.environment = s := by
  obtain ⟨-, arrivals, takes, sends, -⟩ := silent
  simp [State.environment, arrivals, takes, sends]

/-- A wait state without its readiness is starved when the transport is not ready to send either. -/
theorem State.Starved.of_fsmStarves (starves : fsmStarves s.fsm s.rx = true) (unready : s.inp.transmitReady = false) :
    s.Starved := by
  simpa [State.Starved, fsmStarves, unready] using starves

/-- A silent step of a starved wait is the poll rule's, whatever is on the operation port. -/
theorem step_of_silent (starves : fsmStarves s.fsm s.rx = true) (sched : s.sched = i :: rest) (silent : i.silent) :
    step s = .next (s.sample.pollWait (fsmTimeout s.fsm)) := by
  have sampled : s.sample.inp = i := State.sample_inp_of_sched sched
  have seen : s.seen = s.sample := State.environment_of_silent (sampled ▸ silent)
  obtain ⟨noReset, -, -, -, unready⟩ := sampled ▸ silent
  have noIntrusion : s.sample.hostIntrudes = false :=
    State.hostIntrudes_of_inactive (sampled ▸ hostActive_of_silent silent)
  have starved : s.sample.Starved := .of_fsmStarves starves unready
  rw [stepWithoutAcceptanceIsTheSequencers s (seen ▸ noReset) noIntrusion (.inr starved.fsm_ne_idle), seen,
    starved.advance_eq, State.sample_fsm]

/-- A run of one step more takes the step first. -/
theorem core_run_succ {M : Host.Core} {s t : M.State} (next : M.step s = .next t) (k : Nat) :
    M.run (k + 1) s = M.run k t := by
  rw [Host.Core.run, next]

theorem run_succ_of_step {t : State} (next : step s = .next t) (k : Nat) :
    Host.Core.run Sys2Proof.core (k + 1) s = Host.Core.run Sys2Proof.core k t :=
  core_run_succ (M := Sys2Proof.core) next k

end Silence

/-- The bounded wait from any count: the `poll` steps already counted and the silent ones that follow make
`POLL_MAX`. -/
theorem run_silent_bounded (i : Input) (rest later : List Input) (s : State)
    (starves : fsmStarves s.fsm s.rx = true) (left : s.poll.toNat + (rest.length + 1) = s.params.pollMax.toNat)
    (silent : ∀ j ∈ i :: rest, j.silent) (sched : s.sched = i :: (rest ++ later)) :
    ∃ t : State, Host.Core.run Sys2Proof.core (rest.length + 1) s = .next t ∧
      t.status = fsmTimeout s.fsm ∧ t.done = true ∧ t.fsm = .idle ∧ t.rx = s.rx ∧ t.tx = s.tx ∧
      t.poll = s.params.pollMax - 1 := by
  induction rest generalizing s i with
  | nil =>
    have last : s.sample.poll.toNat + 1 = s.sample.params.pollMax.toNat := left
    have stepped := step_of_silent starves sched (silent i List.mem_cons_self)
    rw [State.pollWait_last last] at stepped
    have atBound : s.poll = s.params.pollMax - 1 := by
      rw [List.length_nil] at left
      bv_omega
    exact ⟨_, run_succ_of_step stepped 0, rfl, rfl, rfl, rfl, rfl, atBound⟩
  | cons j rest ih =>
    rw [List.length_cons] at left
    have below : s.poll.toNat + 1 < s.params.pollMax.toNat := by omega
    have stepped := step_of_silent starves sched (silent i List.mem_cons_self)
    rw [State.pollWait_counted (s := s.sample) below] at stepped
    have counted : (s.poll + 1).toNat + (rest.length + 1) = s.params.pollMax.toNat := by bv_omega
    obtain ⟨t, run, ends⟩ := ih j { s.sample with poll := s.poll + 1, done := false } starves counted
      (fun k member => silent k (List.mem_cons_of_mem i member)) (by simp [sched])
    exact ⟨t, (run_succ_of_step stepped _).trans run, ends⟩

/-- Settles O54: with nothing counted yet, `POLL_MAX` silent steps are the whole bounded wait. -/
theorem silentWaitTimesOut : Obligations.SilentWaitTimesOut := by
  unfold Obligations.SilentWaitTimesOut
  intro s silence later starves bounded uncounted length silent sched
  cases silence with
  | nil => exact absurd (BitVec.eq_of_toNat_eq length.symm) bounded
  | cons i rest =>
    exact run_silent_bounded i rest later s starves (by simp [uncounted, ← length]) silent sched

/-- The unbounded wait: any number of silent steps, each of which leaves `done` at 0. -/
theorem run_silent_unbounded (silence later : List Input) (s : State) (starves : fsmStarves s.fsm s.rx = true)
    (unbounded : s.params.pollMax = 0) (silent : ∀ i ∈ silence, i.silent) (sched : s.sched = silence ++ later) :
    ∃ t : State, Host.Core.run Sys2Proof.core silence.length s = .next t ∧ t.fsm = s.fsm ∧ t.rx = s.rx ∧ t.tx = s.tx ∧
      t.status = s.status ∧ (silence ≠ [] ∨ s.done = false → t.done = false) := by
  induction silence generalizing s with
  | nil => exact ⟨s, rfl, rfl, rfl, rfl, rfl, by simp⟩
  | cons i rest ih =>
    have stepped := step_of_silent starves sched (silent i List.mem_cons_self)
    rw [State.pollWait_unbounded (s := s.sample) unbounded] at stepped
    obtain ⟨t, run, fsm, rx, tx, status, done⟩ := ih s.sample.hold starves unbounded
      (fun j member => silent j (List.mem_cons_of_mem i member)) (by simp [sched])
    exact ⟨t, (run_succ_of_step stepped _).trans run, fsm, rx, tx, status, fun _ => done (.inr rfl)⟩

/-- Settles O55: the streams and the sequencer's state are kept by every silent step, and each leaves `done` at 0. -/
theorem unboundedWaitNeverCompletes : Obligations.UnboundedWaitNeverCompletes := by
  unfold Obligations.UnboundedWaitNeverCompletes
  intro s silence later starves unbounded silent sched
  obtain ⟨t, run, fsm, rx, tx, status, done⟩ := run_silent_unbounded silence later s starves unbounded silent sched
  exact ⟨t, run, fsm, rx, tx, status, fun some => done (.inl some)⟩

/-! ### The strobes (R67, R68) -/

/-- No state both transmits and receives (R67, R68). -/
theorem fsmReceives_of_transmits {f : Fsm} (transmits : fsmTransmits f = true) : fsmReceives f = false := by
  cases f with
  | hsTx0 | hsTxm | hsTxa | ctTx => rfl
  | _ => cases transmits

section Strobes
variable {s t : State}

/-- A starved wait does not send. -/
theorem State.Starved.sendByte_eq_false (starved : s.Starved) : s.sendByte = false := by
  obtain ⟨-, unready⟩ | ⟨receives, -⟩ := starved
  · simp [State.sendByte, unready]
  · have noTransmit : fsmTransmits s.fsm = false :=
      Bool.eq_false_iff.mpr fun transmits => by simp [fsmReceives_of_transmits transmits] at receives
    simp [State.sendByte, noTransmit]

/-- What the core takes from `RX` is its head in a receive state; a starved wait has none to take. -/
theorem State.Starved.tail_rx (starved : s.Starved) : (if fsmReceives s.fsm then s.rx.tail else s.rx) = s.rx := by
  obtain ⟨transmits, -⟩ | ⟨-, empty⟩ := starved
  · simp [fsmReceives_of_transmits transmits]
  · simp [empty]

/-- The core takes the head of `RX` in a receive state, where `RX` has one (R68). -/
theorem SequencerRule.rx_eq (rule : SequencerRule s t) : t.rx = if fsmReceives s.fsm then s.rx.tail else s.rx := by
  cases rule with
  | waitUnbounded starved | waitCounted starved | waitEnded starved => exact starved.tail_rx.symm
  | idle fsm | hsTx0Sent fsm | hsRxFirst fsm | hsRxSecond fsm | hsRxFinished fsm | hsRxMismatched fsm | hsTxmSent fsm
  | hsTxaSucceeded fsm | hsTxaGaveUp fsm | hsTxaRepeated fsm | ctTxSent fsm | ctRxMatched fsm | ctRxGaveUp fsm
  | ctRxRetried fsm | osRunWaited fsm | osRunAttempted fsm | osFinished fsm => rw [fsm]; rfl

/-- The core sends one byte where its strobe says so, and else nothing (R67). -/
theorem SequencerRule.tx_eq (rule : SequencerRule s t) (noReset : s.inp.rst = false) :
    t.tx = if s.sendByte then s.tx ++ [s.sendData] else s.tx := by
  cases rule with
  | waitUnbounded starved | waitCounted starved | waitEnded starved => simp [starved.sendByte_eq_false]
  | hsTx0Sent fsm ready | hsTxmSent fsm ready | hsTxaSucceeded fsm ready | hsTxaGaveUp fsm ready
  | hsTxaRepeated fsm ready | ctTxSent fsm ready =>
    simp [State.sendByte, State.sendData, fsm, ready, noReset, fsmTransmits, calByte]
  | idle fsm | hsRxFirst fsm | hsRxSecond fsm | hsRxFinished fsm | hsRxMismatched fsm | ctRxMatched fsm | ctRxGaveUp fsm
  | ctRxRetried fsm | osRunWaited fsm | osRunAttempted fsm | osFinished fsm =>
    simp [State.sendByte, fsm, fsmTransmits, osAttempt]

/-- Without a reset the read strobe falls in a receive state only where there is nothing to take. -/
theorem State.ite_readByte_tail (noReset : s.inp.rst = false) :
    (if s.readByte then s.rx.tail else s.rx) = if fsmReceives s.fsm then s.rx.tail else s.rx := by
  cases rx : s.rx <;> simp [State.readByte, State.receiveReady, noReset, rx]

theorem State.readByte_of_sendByte (sends : s.sendByte = true) : s.readByte = false := by
  simp only [State.sendByte, Bool.and_eq_true] at sends
  simp [State.readByte, fsmReceives_of_transmits sends.1.2]

theorem State.strobes_of_reset (reset : s.inp.rst = true) : s.sendByte = false ∧ s.readByte = false := by
  simp [State.sendByte, State.readByte, reset]

theorem State.strobes_of_idle (idle : s.fsm = .idle) : s.sendByte = false ∧ s.readByte = false := by
  simp [State.sendByte, State.readByte, idle, fsmTransmits, fsmReceives]

/-- An accepting step uses neither stream (R92). -/
theorem acceptEffect_streams (i : Instr) (s : State) : (acceptEffect i s).tx = s.tx ∧ (acceptEffect i s).rx = s.rx := by
  cases i <;> exact ⟨rfl, rfl⟩

end Strobes

/-- Settles O42: a reset and an accepting step move nothing and raise no strobe; the sequencer's rules move what their
strobes say. -/
theorem streamsMoveWithTheStrobes : Obligations.StreamsMoveWithTheStrobes := by
  unfold Obligations.StreamsMoveWithTheStrobes
  intro s t next
  refine and_assoc.mp ⟨?_, State.readByte_of_sendByte⟩
  obtain ⟨reset, rfl⟩ | ⟨⟨-, idle, -⟩, rfl⟩ | ⟨noReset, -, named, rfl⟩ := step_next next
  · obtain ⟨noSend, noRead⟩ := State.strobes_of_reset reset
    rw [noSend, noRead]
    exact ⟨rfl, rfl⟩
  · obtain ⟨noSend, noRead⟩ := State.strobes_of_idle (s := s.seen) idle
    rw [noSend, noRead]
    exact acceptEffect_streams s.request s.seen
  · have rule := sequencerStep_rule (s := s.seen) named
    exact ⟨rule.tx_eq noReset, rule.rx_eq.trans (State.ite_readByte_tail noReset).symm⟩

/-! ### The byte rows (R62, R80) -/

section ByteRows
variable {s : State} {i : Instr} {b : Byte}

/-- In `IDLE` a byte row appends its byte. -/
theorem exec_byte_idle (encodes : encode i = .byte b) (idle : s.fsm = .idle) :
    exec i s = .next { s with rx := s.rx ++ [b], done := false } := by
  rw [exec_byte encodes, receiveByte, advance_idle (s := s.deliver [b]) idle]
  rfl

/-- One arriving byte and nothing else is what a byte row delivers. -/
theorem State.seen_of_arrival (inactive : s.sample.inp.hostActive = false) (arrival : s.sample.inp.arrivals = [b]) :
    s.seen = s.sample.deliver [b] := by
  simp only [Input.hostActive, Bool.or_eq_false_iff, bne_eq_false_iff_eq, Bool.not_eq_false',
    List.isEmpty_iff] at inactive
  obtain ⟨takes, sends⟩ := inactive
  simp [State.seen, State.environment, State.deliver, arrival, takes, sends]

end ByteRows

/-- Settles O27: each row appends the byte it encodes to. -/
theorem byteRowsJoinTheReceiveStream : Obligations.ByteRowsJoinTheReceiveStream := by
  unfold Obligations.ByteRowsJoinTheReceiveStream
  exact fun _ _ _ _ _ _ _ idle => ⟨exec_byte_idle rfl idle, exec_byte_idle rfl idle, exec_byte_idle rfl idle,
    exec_byte_idle rfl idle, exec_byte_idle rfl idle, exec_byte_idle rfl idle, exec_byte_idle rfl idle⟩

/-- Settles O28: the byte joins `RX`, and then the sequencer's rule takes the oldest byte or none. -/
theorem byteRowsCompleteInEveryNamedState : Obligations.ByteRowsCompleteInEveryNamedState := by
  unfold Obligations.ByteRowsCompleteInEveryNamedState
  intro i b s encodes named
  have delivered : fsmAssigned (s.deliver [b]).fsm = true := named
  refine ⟨sequencerStep (s.deliver [b]), ?_, (sequencerStep_rule delivered).rx_eq⟩
  rw [exec_byte encodes, receiveByte, advance_of_assigned delivered]

/-- Settles O9: the step is the sequencer's on the state with the byte delivered. -/
theorem stepRunsTheArrivingByteRow : Obligations.StepRunsTheArrivingByteRow := by
  unfold Obligations.StepRunsTheArrivingByteRow
  intro s b i noReset noStart inactive arrival decodes
  have noIntrusion : s.sample.hostIntrudes = false := State.hostIntrudes_of_inactive inactive
  rw [step_of_no_request noReset noIntrusion noStart, State.seen_of_arrival inactive arrival,
    exec_byte (encode_of_decodeByte decodes), receiveByte]

/-! ### The packet port (R66) -/

/-- The same state with other ports sampled. -/
def State.withPorts (j : Input) (s : State) : State := { s with inp := j }

@[simp] theorem State.withPorts_fsm (j : Input) (s : State) : (s.withPorts j).fsm = s.fsm := rfl
@[simp] theorem State.withPorts_rx (j : Input) (s : State) : (s.withPorts j).rx = s.rx := rfl
@[simp] theorem State.withPorts_inp (j : Input) (s : State) : (s.withPorts j).inp = j := rfl

section Ports
variable {s : State} {j : Input}

/-- States that differ in the sampled ports alone are the same apart from them. -/
theorem sameApartFromPorts_withPorts (j : Input) (s : State) :
    sameApartFromPorts (.next (s.withPorts j)) (.next s) := rfl

theorem State.pollWait_withPorts (err : Status) : (s.withPorts j).pollWait err = (s.pollWait err).withPorts j := by
  simp only [State.pollWait, apply_ite (State.withPorts j)]
  rfl

/-- The sequencer reads two things of the ports: `transmit_ready`, and in `OS_RUN` the packet (R67, R181). -/
theorem sequencerStep_withPorts (ready : j.transmitReady = s.inp.transmitReady)
    (packet : s.fsm = .osRun → j.pkt = s.inp.pkt ∧ j.pktValid = s.inp.pktValid) :
    sequencerStep (s.withPorts j) = (sequencerStep s).withPorts j := by
  unfold sequencerStep
  rw [State.withPorts_fsm]
  cases fsm : s.fsm with
  | idle | osFin | unassigned => rfl
  | hsTx0 | hsTxm | hsTxa | ctTx =>
    simp only [stepHsTx0, stepHsTxm, stepHsTxa, stepCtTx, State.withPorts_inp, ready, State.pollWait_withPorts,
      apply_ite (State.withPorts j)]
    rfl
  | hsRx | ctRx =>
    simp only [stepHsRx, stepCtRx, State.withPorts_rx]
    cases s.rx with
    | nil => exact State.pollWait_withPorts _
    | cons b rest =>
      simp only [stepHsMatch, apply_ite (State.withPorts j)]
      rfl
  | osRun =>
    obtain ⟨pkt, valid⟩ := packet fsm
    simp only [stepOsRun, State.withPorts_inp, pkt, valid, apply_ite (State.withPorts j)]
    rfl

/-- Of the requests only DECODE reads the ports as it is accepted (R171). -/
theorem acceptEffect_withPorts {i : Instr} (notDecode : ∀ cmd, i ≠ .decode cmd) :
    acceptEffect i (s.withPorts j) = (acceptEffect i s).withPorts j := by
  cases i with
  | decode cmd => exact absurd rfl (notDecode cmd)
  | _ => rfl

/-- The sequencer's outcome does not depend on the ports that its state does not read. -/
theorem advance_withPorts (ready : j.transmitReady = s.inp.transmitReady)
    (packet : s.fsm = .osRun → j.pkt = s.inp.pkt ∧ j.pktValid = s.inp.pktValid) :
    sameApartFromPorts (advance (s.withPorts j)) (advance s) := by
  cases named : fsmAssigned s.fsm with
  | true =>
    rw [advance_of_assigned (s := s.withPorts j) named, advance_of_assigned named, sequencerStep_withPorts ready packet]
    exact sameApartFromPorts_withPorts j (sequencerStep s)
  | false =>
    rw [advance_eq (s.withPorts j), advance_eq s, State.withPorts_fsm, named]
    rfl

/-- Nor does the outcome of a presented request whose accepting step reads no port. -/
theorem present_withPorts {effect : State → State} (ready : j.transmitReady = s.inp.transmitReady)
    (packet : s.fsm = .osRun → j.pkt = s.inp.pkt ∧ j.pktValid = s.inp.pktValid)
    (accepted : s.fsm = .idle → effect (s.withPorts j) = (effect s).withPorts j) :
    sameApartFromPorts (present effect (s.withPorts j)) (present effect s) := by
  by_cases idle : s.fsm = .idle
  · rw [present_idle (s := s.withPorts j) idle, present_idle idle, accepted idle]
    exact sameApartFromPorts_withPorts j (effect s)
  · rw [present_busy (s := s.withPorts j) idle, present_busy idle]
    exact advance_withPorts ready packet

/-- The step with its first scheduled input written out. -/
theorem step_of_sched {i : Input} {later : List Input} (sched : s.sched = i :: later) :
    step s =
      if i.rst then .next s.seen.resetCore
      else if s.sample.hostIntrudes then .refused .hostTransportInFlight
      else if i.opStart then present (acceptEffect (decodeRequest i.req)) s.seen
      else advance s.seen := by
  rw [step_eq, State.request, seen_inp, State.sample_inp_of_sched sched]

/-- The same step with another packet on the port: its rules see the same state with other ports. -/
theorem step_of_sched_packet {i : Input} {later : List Input} (sched : s.sched = i :: later) (p : Packet) (v : Bool) :
    step { s with sched := { i with pkt := p, pktValid := v } :: later } =
      if i.rst then .next (s.seen.resetCore.withPorts { i with pkt := p, pktValid := v })
      else if s.sample.hostIntrudes then .refused .hostTransportInFlight
      else if i.opStart then
        present (acceptEffect (decodeRequest i.req)) (s.seen.withPorts { i with pkt := p, pktValid := v })
      else advance (s.seen.withPorts { i with pkt := p, pktValid := v }) := by
  cases s
  cases sched
  exact step_of_sched (i := { i with pkt := p, pktValid := v }) (later := later) rfl

/-- Where no decoder runs, the packet port does not matter: the two steps take the same branch. -/
theorem step_packet_irrelevant {i : Input} {later : List Input} (sched : s.sched = i :: later)
    (notRun : s.fsm ≠ .osRun)
    (notDecode : ¬(s.fsm = .idle ∧ i.opStart = true ∧ ∃ cmd, decodeRequest i.req = .decode cmd))
    (p : Packet) (v : Bool) :
    sameApartFromPorts (step { s with sched := { i with pkt := p, pktValid := v } :: later }) (step s) := by
  have sampled : s.seen.inp = i := State.sample_inp_of_sched sched
  have ready : i.transmitReady = s.seen.inp.transmitReady := by rw [sampled]
  rw [step_of_sched_packet sched, step_of_sched sched]
  split
  · exact sameApartFromPorts_withPorts _ s.seen.resetCore
  · split
    · rfl
    · split
      · refine present_withPorts ready (fun run => absurd run notRun) fun idle => ?_
        refine acceptEffect_withPorts fun cmd decodes => ?_
        exact notDecode ⟨idle, ‹_›, cmd, decodes⟩
      · exact advance_withPorts ready fun run => absurd run notRun

end Ports

/-- Settles O49: the two steps see the same state but for the packet, which neither reads. -/
theorem packetPortIsReadOnlyByDecoders : Obligations.PacketPortIsReadOnlyByDecoders := by
  unfold Obligations.PacketPortIsReadOnlyByDecoders
  exact fun s i later p v notRun notDecode =>
    step_packet_irrelevant (s := { s with sched := i :: later }) rfl notRun notDecode p v

end Sys2Proof.Machine

/-! ## The encodings (spec 30_encoding.md)

A request word is read field by field, so its unread fields drop out (R91, R93, R94). The byte patterns exclude each
other but for the two reserved values of the form `RESP1` (R105, log 7), so a byte names the row that encodes to it. The
step runs the request that is presented (R92), and a busy core reads none. -/

namespace Sys2Proof.Machine

/-! ### The request word (R91, R93) -/

section Fields
variable (op : BitVec 3) (inch : BitVec 2) (count hi lo : Byte) (arg : Half)

@[simp] theorem reqOp_requestWord (vref mode pga : BitVec 1) :
    reqOp (requestWord op inch vref mode pga count arg) = op := by
  obtain ⟨field, -⟩ := requestWord_fields op inch vref mode pga count arg
  exact field

@[simp] theorem reqInch_requestWord (vref mode pga : BitVec 1) :
    reqInch (requestWord op inch vref mode pga count arg) = inch := by
  obtain ⟨-, field, -⟩ := requestWord_fields op inch vref mode pga count arg
  exact field

@[simp] theorem reqVref_requestWord (vref : Vref) (mode pga : BitVec 1) :
    reqVref (requestWord op inch vref.bit mode pga count arg) = vref := by
  obtain ⟨-, -, field, -⟩ := requestWord_fields op inch vref.bit mode pga count arg
  rw [reqVref, getLsbD_eq_extract, field, Vref.ofBit_bit]

@[simp] theorem reqMode_requestWord (vref : BitVec 1) (mode : Mode) (pga : BitVec 1) :
    reqMode (requestWord op inch vref mode.bit pga count arg) = mode := by
  obtain ⟨-, -, -, field, -⟩ := requestWord_fields op inch vref mode.bit pga count arg
  rw [reqMode, getLsbD_eq_extract, field, Mode.ofBit_bit]

@[simp] theorem reqPga_requestWord (vref mode : BitVec 1) (pga : Gain) :
    reqPga (requestWord op inch vref mode pga.bit count arg) = pga := by
  obtain ⟨-, -, -, -, field, -⟩ := requestWord_fields op inch vref mode pga.bit count arg
  rw [reqPga, getLsbD_eq_extract, field, Gain.ofBit_bit]

@[simp] theorem reqCount_requestWord (vref mode pga : BitVec 1) :
    reqCount (requestWord op inch vref mode pga count arg) = count := by
  obtain ⟨-, -, -, -, -, field, -⟩ := requestWord_fields op inch vref mode pga count arg
  exact field

@[simp] theorem reqArg_requestWord (vref mode pga : BitVec 1) :
    reqArg (requestWord op inch vref mode pga count arg) = arg := by
  obtain ⟨-, -, -, -, -, -, field⟩ := requestWord_fields op inch vref mode pga count arg
  exact field

/-- The command is the low byte of `arg`, whatever the high byte is (R91, R94). -/
@[simp] theorem reqCmd_requestWord (vref mode pga : BitVec 1) :
    reqCmd (requestWord op inch vref mode pga count (hi ++ lo)) = lo := by
  rw [reqCmd_eq, reqArg_requestWord, BitVec.setWidth_append_eq_right]

end Fields

section Codes
variable {w : ReqWord}

theorem decodeRequest_of_op0 (op : reqOp w = 0) : decodeRequest w = .autobaud := by
  simp [decodeRequest, op]

theorem decodeRequest_of_op1 (op : reqOp w = 1) :
    decodeRequest w = .pack (reqPga w) (reqMode w) (reqVref w) (reqInch w) := by
  simp [decodeRequest, op]

theorem decodeRequest_of_op2 (op : reqOp w = 2) : decodeRequest w = .sendcmd (reqCmd w) := by
  simp [decodeRequest, op]

theorem decodeRequest_of_op3 (op : reqOp w = 3) : decodeRequest w = .decode (reqCmd w) := by
  simp [decodeRequest, op]

theorem decodeRequest_of_op4 (op : reqOp w = 4) : decodeRequest w = .decodeos (reqCmd w) (reqCount w) := by
  simp [decodeRequest, op]

theorem decodeRequest_of_op5 (op : reqOp w = 5) : decodeRequest w = .revbits (reqArg w) := by
  simp [decodeRequest, op]

theorem decodeRequest_of_op6 (op : reqOp w = 6) : decodeRequest w = .reserved6 := by
  simp [decodeRequest, op]

theorem decodeRequest_of_op7 (op : reqOp w = 7) : decodeRequest w = .reserved7 := by
  simp [decodeRequest, op]

end Codes

/-- Each operation code reads its own fields and no others (R93, R94). -/
theorem decodeRequest_requestWord (inch : BitVec 2) (vref : Vref) (mode : Mode) (pga : Gain) (count hi lo : Byte)
    (arg : Half) :
    decodeRequest (requestWord 0 inch vref.bit mode.bit pga.bit count arg) = .autobaud ∧
    decodeRequest (requestWord 1 inch vref.bit mode.bit pga.bit count arg) = .pack pga mode vref inch ∧
    decodeRequest (requestWord 2 inch vref.bit mode.bit pga.bit count (hi ++ lo)) = .sendcmd lo ∧
    decodeRequest (requestWord 3 inch vref.bit mode.bit pga.bit count (hi ++ lo)) = .decode lo ∧
    decodeRequest (requestWord 4 inch vref.bit mode.bit pga.bit count (hi ++ lo)) = .decodeos lo count ∧
    decodeRequest (requestWord 5 inch vref.bit mode.bit pga.bit count arg) = .revbits arg ∧
    decodeRequest (requestWord 6 inch vref.bit mode.bit pga.bit count arg) = .reserved6 ∧
    decodeRequest (requestWord 7 inch vref.bit mode.bit pga.bit count arg) = .reserved7 := by
  refine ⟨?autobaud, ?pack, ?sendcmd, ?decode, ?decodeos, ?revbits, ?reserved6, ?reserved7⟩
  case autobaud => exact decodeRequest_of_op0 (reqOp_requestWord ..)
  case pack =>
    rw [decodeRequest_of_op1 (reqOp_requestWord ..), reqPga_requestWord, reqMode_requestWord, reqVref_requestWord,
      reqInch_requestWord]
  case sendcmd => rw [decodeRequest_of_op2 (reqOp_requestWord ..), reqCmd_requestWord]
  case decode => rw [decodeRequest_of_op3 (reqOp_requestWord ..), reqCmd_requestWord]
  case decodeos => rw [decodeRequest_of_op4 (reqOp_requestWord ..), reqCmd_requestWord, reqCount_requestWord]
  case revbits => rw [decodeRequest_of_op5 (reqOp_requestWord ..), reqArg_requestWord]
  case reserved6 => exact decodeRequest_of_op6 (reqOp_requestWord ..)
  case reserved7 => exact decodeRequest_of_op7 (reqOp_requestWord ..)

/-! ### The outcome of `exec` and the ports (R94) -/

/-- Every row is a request or has a byte of its own (R90). -/
theorem format_eq_req_or_encode_byte (i : Instr) : i.format = .req ∨ ∃ b, encode i = .byte b := by
  cases i with
  | autobaud | pack | sendcmd | decode | decodeos | revbits | reserved6 | reserved7 => exact .inl rfl
  | cmd | resp1 | resp2 | cal | conf | failed | presync => exact .inr ⟨_, rfl⟩

section Ports
variable {s : State} {j : Input}

/-- An accepting step reads the packet port at most (R171). -/
theorem acceptEffect_withPorts_of_pkt (i : Instr) (packet : j.pkt = s.inp.pkt) :
    acceptEffect i (s.withPorts j) = (acceptEffect i s).withPorts j := by
  cases i with
  | decode cmd => simp only [acceptEffect, acceptDecode, State.withPorts_inp, packet]; rfl
  | _ => rfl

/-- No meaning reads a port other than `transmit_ready`, `pkt` and `pkt_valid`. -/
theorem exec_withPorts (i : Instr) (ready : j.transmitReady = s.inp.transmitReady) (packet : j.pkt = s.inp.pkt)
    (valid : j.pktValid = s.inp.pktValid) : sameApartFromPorts (exec i (s.withPorts j)) (exec i s) := by
  obtain request | ⟨b, encodes⟩ := format_eq_req_or_encode_byte i
  · rw [exec_request request, exec_request request]
    exact present_withPorts ready (fun _ => ⟨packet, valid⟩) fun _ => acceptEffect_withPorts_of_pkt i packet
  · rw [exec_byte encodes, exec_byte encodes]
    exact advance_withPorts (s := s.deliver [b]) ready fun _ => ⟨packet, valid⟩

end Ports

/-- Settles O5: the word is read through the fields of its code alone, and `req` is none of the ports a meaning reads. -/
theorem unreadRequestFieldsAreIgnored : Obligations.UnreadRequestFieldsAreIgnored := by
  unfold Obligations.UnreadRequestFieldsAreIgnored
  exact ⟨decodeRequest_requestWord, fun i s w => exec_withPorts (j := { s.inp with req := w }) i rfl rfl rfl⟩

/-! ### The byte formats (R96, R100, R101, R104) -/

/-- The fields of a command byte laid out by `cmdByte` read back as they were put in (R96). -/
theorem cmdByte_fields (inch : BitVec 2) (vref : Vref) (mode : Mode) (pga : Gain) :
    cmdByte inch vref mode pga &&& 0xC2 = 0xC0 ∧ (cmdByte inch vref mode pga).extractLsb' 4 2 = inch ∧
    (cmdByte inch vref mode pga).getLsbD 3 = vref.bit.getLsbD 0 ∧
    (cmdByte inch vref mode pga).getLsbD 2 = mode.bit.getLsbD 0 ∧
    (cmdByte inch vref mode pga).getLsbD 0 = pga.bit.getLsbD 0 := by
  unfold cmdByte
  generalize vref.bit = v, mode.bit = m, pga.bit = g
  revert inch v m g
  decide

theorem decodeCmd_cmdByte (inch : BitVec 2) (vref : Vref) (mode : Mode) (pga : Gain) :
    decodeCmd (cmdByte inch vref mode pga) = .ok (.cmd inch vref mode pga) := by
  obtain ⟨fixedBits, inchField, vrefField, modeField, pgaField⟩ := cmdByte_fields inch vref mode pga
  rw [decodeCmd, if_pos fixedBits, inchField, vrefField, modeField, pgaField, Vref.ofBit_bit, Mode.ofBit_bit,
    Gain.ofBit_bit]

theorem decodeResp1_resp1Byte : ∀ (inch : BitVec 2) (d9_d6 : BitVec 4),
    decodeResp1 (resp1Byte inch d9_d6) = .ok (.resp1 inch d9_d6) := by decide

theorem decodeResp2_resp2Byte : ∀ d5_d0 : BitVec 6, decodeResp2 (resp2Byte d5_d0) = .ok (.resp2 d5_d0) := by decide

/-- Settles O2: a request word by its operation code, with the fields it does not read at 0; a byte by its format. -/
theorem placedWordDecodesToItsInstruction : Obligations.PlacedWordDecodesToItsInstruction := by
  unfold Obligations.PlacedWordDecodesToItsInstruction
  intro i
  cases i with
  | autobaud => exact congrArg Except.ok (decodeRequest_of_op0 (reqOp_requestWord ..))
  | pack pga mode vref inch =>
    obtain ⟨-, pack, -⟩ := decodeRequest_requestWord inch vref mode pga 0 0 0 0
    exact congrArg Except.ok pack
  | sendcmd cmd =>
    obtain ⟨-, -, sendcmd, -⟩ := decodeRequest_requestWord 0 .vdd .single .half 0 0 cmd 0
    exact congrArg Except.ok sendcmd
  | decode cmd =>
    obtain ⟨-, -, -, decode, -⟩ := decodeRequest_requestWord 0 .vdd .single .half 0 0 cmd 0
    exact congrArg Except.ok decode
  | decodeos cmd count =>
    obtain ⟨-, -, -, -, decodeos, -⟩ := decodeRequest_requestWord 0 .vdd .single .half count 0 cmd 0
    exact congrArg Except.ok decodeos
  | revbits arg =>
    obtain ⟨-, -, -, -, -, revbits, -⟩ := decodeRequest_requestWord 0 .vdd .single .half 0 0 0 arg
    exact congrArg Except.ok revbits
  | reserved6 => exact congrArg Except.ok (decodeRequest_of_op6 (reqOp_requestWord ..))
  | reserved7 => exact congrArg Except.ok (decodeRequest_of_op7 (reqOp_requestWord ..))
  | cmd inch vref mode pga => exact decodeCmd_cmdByte inch vref mode pga
  | resp1 inch d9_d6 => exact decodeResp1_resp1Byte inch d9_d6
  | resp2 d5_d0 => exact decodeResp2_resp2Byte d5_d0
  | cal | conf | failed | presync => rfl

/-! ### A byte read without its place (R105, log 7) -/

/-- The four exact values (R104). -/
def reservedBytes : List Byte := [calByte, confByte, failedByte, presyncByte]

section Patterns
variable {b : Byte} {i : Instr}

/-- The reader of reserved values accepts these four and no other byte. -/
theorem decodeRsvd_cases (b : Byte) :
    (b ∈ reservedBytes ∧ ∃ i, decodeRsvd b = .ok i) ∨
      (b ∉ reservedBytes ∧ decodeRsvd b = .error (.fixedBits .rsvd b)) := by
  by_cases member : b ∈ reservedBytes
  · refine .inl ⟨member, ?_⟩
    simp only [reservedBytes, List.mem_cons, List.not_mem_nil, or_false] at member
    obtain rfl | rfl | rfl | rfl := member <;> exact ⟨_, rfl⟩
  · refine .inr ⟨member, ?_⟩
    simp only [reservedBytes, List.mem_cons, List.not_mem_nil, or_false, not_or] at member
    obtain ⟨notCal, notConf, notFailed, notPresync⟩ := member
    rw [decodeRsvd, if_neg notCal, if_neg notConf, if_neg notFailed, if_neg notPresync]

/-- The reserved values come first. -/
theorem decodeByte_of_decodeRsvd (reserved : decodeRsvd b = .ok i) : decodeByte b = .ok i := by
  rw [decodeByte, reserved]

/-- Any other byte is read by the first pattern it has. -/
theorem decodeByte_of_not_reserved (free : b ∉ reservedBytes) :
    decodeByte b =
      if b &&& 0xC2 = 0xC0 then decodeCmd b
      else if b &&& 0xC0 = 0x80 then decodeResp1 b
      else if b &&& 0x81 = 0x00 then decodeResp2 b
      else .error (.noSuchByte b) := by
  obtain ⟨member, -⟩ | ⟨-, notReserved⟩ := decodeRsvd_cases b
  · exact absurd member free
  · rw [decodeByte, notReserved]
    by_cases cmd : b &&& 0xC2 = 0xC0
    · simp only [decodeCmd, if_pos cmd]
    · by_cases resp1 : b &&& 0xC0 = 0x80
      · simp only [decodeCmd, decodeResp1, if_neg cmd, if_pos resp1]
      · by_cases resp2 : b &&& 0x81 = 0x00
        · simp only [decodeCmd, decodeResp1, decodeResp2, if_neg cmd, if_neg resp1, if_pos resp2]
        · simp only [decodeCmd, decodeResp1, decodeResp2, if_neg cmd, if_neg resp1, if_neg resp2]

/-! The reader of one format accepts only bytes with that format's fixed bits. -/

theorem fixedBits_of_decodeCmd (reads : decodeCmd b = .ok i) : b &&& 0xC2 = 0xC0 := by
  by_contra other
  rw [decodeCmd, if_neg other] at reads
  cases reads

theorem fixedBits_of_decodeResp1 (reads : decodeResp1 b = .ok i) : b &&& 0xC0 = 0x80 := by
  by_contra other
  rw [decodeResp1, if_neg other] at reads
  cases reads

theorem fixedBits_of_decodeResp2 (reads : decodeResp2 b = .ok i) : b &&& 0x81 = 0x00 := by
  by_contra other
  rw [decodeResp2, if_neg other] at reads
  cases reads

/-- A byte is rejected where no pattern fits and it is no reserved value. -/
theorem decodeByte_eq_error_iff :
    decodeByte b = .error (.noSuchByte b) ↔
      b &&& 0xC2 ≠ 0xC0 ∧ b &&& 0xC0 ≠ 0x80 ∧ b &&& 0x81 ≠ 0x00 ∧ b ∉ reservedBytes := by
  constructor
  · intro rejected
    obtain ⟨-, i, reserved⟩ | ⟨free, -⟩ := decodeRsvd_cases b
    · cases (decodeByte_of_decodeRsvd reserved).symm.trans rejected
    · rw [decodeByte_of_not_reserved free] at rejected
      split at rejected
      case isTrue cmd => rw [decodeCmd, if_pos cmd] at rejected; cases rejected
      case isFalse notCmd =>
        split at rejected
        case isTrue resp1 => rw [decodeResp1, if_pos resp1] at rejected; cases rejected
        case isFalse notResp1 =>
          split at rejected
          case isTrue resp2 => rw [decodeResp2, if_pos resp2] at rejected; cases rejected
          case isFalse notResp2 => exact ⟨notCmd, notResp1, notResp2, free⟩
  · rintro ⟨notCmd, notResp1, notResp2, free⟩
    rw [decodeByte_of_not_reserved free, if_neg notCmd, if_neg notResp1, if_neg notResp2]

/-- No reserved value has the pattern of a command byte or of a second data byte (R105). -/
theorem reservedBytes_exclude : ∀ b ∈ reservedBytes, b &&& 0xC2 ≠ 0xC0 ∧ b &&& 0x81 ≠ 0x00 := by decide

/-- The three patterns exclude each other (R105). -/
theorem patterns_exclude :
    ∀ b : Byte, (b &&& 0xC0 = 0x80 → b &&& 0xC2 ≠ 0xC0) ∧
      (b &&& 0x81 = 0x00 → b &&& 0xC2 ≠ 0xC0 ∧ b &&& 0xC0 ≠ 0x80) := by decide

/-- The terms without a word of their own are the two first data bytes `0xAA` and `0x88` (log 7). -/
theorem wf_eq_false_iff : i.wf = false ↔ i = .resp1 2 0xA ∨ i = .resp1 0 0x8 := by
  cases i with
  | resp1 inch d9_d6 =>
    simp only [Instr.wf, resp1IsReservedValue, Bool.not_eq_false', Bool.or_eq_true, Bool.and_eq_true, beq_iff_eq,
      Instr.resp1.injEq]
  | _ => simp [Instr.wf]

/-- A first data byte with a word of its own is not a reserved value (log 7). -/
theorem not_reserved_of_decodeResp1 (reads : decodeResp1 b = .ok i) (wf : i.wf = true) : b ∉ reservedBytes := by
  intro member
  simp only [reservedBytes, List.mem_cons, List.not_mem_nil, or_false] at member
  obtain rfl | rfl | rfl | rfl := member <;> cases reads <;> cases wf

/-- In a place that fixes the format a well-formed row's byte is read as it is without a place. -/
theorem decodeByte_of_decodeAs {f : Format} (reads : decodeAs f (.byte b) = .ok i) (wf : i.wf = true) :
    decodeByte b = .ok i := by
  cases f with
  | req => cases reads
  | rsvd => exact decodeByte_of_decodeRsvd reads
  | cmd =>
    have pattern := fixedBits_of_decodeCmd reads
    have free : b ∉ reservedBytes := fun member => (reservedBytes_exclude b member).1 pattern
    rw [decodeByte_of_not_reserved free, if_pos pattern]
    exact reads
  | resp1 =>
    have pattern := fixedBits_of_decodeResp1 reads
    have notCmd := (patterns_exclude b).1 pattern
    rw [decodeByte_of_not_reserved (not_reserved_of_decodeResp1 reads wf), if_neg notCmd, if_pos pattern]
    exact reads
  | resp2 =>
    have pattern := fixedBits_of_decodeResp2 reads
    have free : b ∉ reservedBytes := fun member => (reservedBytes_exclude b member).2 pattern
    obtain ⟨notCmd, notResp1⟩ := (patterns_exclude b).2 pattern
    rw [decodeByte_of_not_reserved free, if_neg notCmd, if_neg notResp1, if_pos pattern]
    exact reads

/-- A byte read without its place names a row that has a word of its own: the two others' bytes name CAL and PRESYNC. -/
theorem wf_of_decodeByte (names : decodeByte b = .ok i) : i.wf = true := by
  by_contra notWf
  have encodes := encode_of_decodeByte names
  obtain rfl | rfl := wf_eq_false_iff.mp (Bool.eq_false_iff.mpr notWf)
  · have value : b = calByte := (Wire.byte.inj encodes).symm
    subst value
    cases names
  · have value : b = presyncByte := (Wire.byte.inj encodes).symm
    subst value
    cases names

/-- Only the requests have a 32-bit word (R90). -/
theorem format_of_encode_request {w : ReqWord} (encodes : encode i = .request w) : i.format = .req := by
  obtain request | ⟨b, other⟩ := format_eq_req_or_encode_byte i
  · exact request
  · cases encodes.symm.trans other

end Patterns

/-- Settles O3: a byte names what it encodes, and a well-formed row's byte is read without its place as it is in it. -/
theorem byteNamesExactlyTheRowItEncodes : Obligations.ByteNamesExactlyTheRowItEncodes := by
  unfold Obligations.ByteNamesExactlyTheRowItEncodes
  intro b i
  refine ⟨fun names => ⟨encode_of_decodeByte names, wf_of_decodeByte names⟩, fun ⟨encodes, wf⟩ => ?_⟩
  have placed : decodeAs i.format (.byte b) = .ok i := encodes ▸ placedWordDecodesToItsInstruction i
  exact decodeByte_of_decodeAs placed wf

/-- Settles O1: a request word has its place by its width; a byte names the row it encodes. -/
theorem decodeOfEncodeIsTheInstruction : Obligations.DecodeOfEncodeIsTheInstruction := by
  unfold Obligations.DecodeOfEncodeIsTheInstruction
  intro i wf
  cases encodes : encode i with
  | request w =>
    have placed := placedWordDecodesToItsInstruction i
    rw [encodes, format_of_encode_request encodes] at placed
    exact placed
  | byte b => exact (byteNamesExactlyTheRowItEncodes b i).mpr ⟨encodes, wf⟩

/-- Settles O4. -/
theorem bytesOfNoPatternAreRejected : Obligations.BytesOfNoPatternAreRejected := by
  unfold Obligations.BytesOfNoPatternAreRejected
  intro b
  rw [decodeByte_eq_error_iff]
  simp only [reservedBytes, calByte, confByte, failedByte, presyncByte, List.mem_cons, List.not_mem_nil, or_false,
    not_or, ne_eq]

/-! ### The command bytes (R96 to R98) -/

/-- The OR of the pre-shifted fields is the layout of R96, since no two of them share a bit (R97). -/
theorem packByte_eq_cmdByte (pga : Gain) (mode : Mode) (vref : Vref) (inch : BitVec 2) :
    packByte pga mode vref inch = cmdByte inch vref mode pga := by
  unfold packByte cmdByte
  generalize vref.bit = v, mode.bit = m, pga.bit = g
  revert inch v m g
  decide

/-- A byte is built from fields in their domains where it has the form of a command byte with a channel below 3. -/
theorem exists_packByte_iff (c : Byte) :
    (∃ pga mode vref inch, (Instr.pack pga mode vref inch).inDomain = true ∧ packByte pga mode vref inch = c) ↔
      c &&& 0xC2 = 0xC0 ∧ c.extractLsb' 4 2 ≠ 3 := by
  constructor
  · rintro ⟨pga, mode, vref, inch, inDomain, rfl⟩
    obtain ⟨fixedBits, inchField, -⟩ := cmdByte_fields inch vref mode pga
    rw [packByte_eq_cmdByte, inchField]
    exact ⟨fixedBits, bne_iff_ne.mp inDomain⟩
  · rintro ⟨fixedBits, inDomain⟩
    have encodes := encode_of_decodeByte (decodeByte_of_decodeAs (f := .cmd) (if_pos fixedBits) rfl)
    exact ⟨_, _, _, _, bne_iff_ne.mpr inDomain, (packByte_eq_cmdByte ..).trans (Wire.byte.inj encodes)⟩

/-- Settles O7: the 24 bytes are the ones of the form of a command byte with a channel below 3. -/
theorem commandBytesAreTheTwentyFour : Obligations.CommandBytesAreTheTwentyFour := by
  unfold Obligations.CommandBytesAreTheTwentyFour
  refine ⟨packByte_eq_cmdByte, fun c => ?_⟩
  rw [exists_packByte_iff]
  revert c
  decide

/-! ### The requests in the step (R92, R93, R95) -/

/-- Settles O25. -/
theorem reservedCodesRaiseIllegalOp : Obligations.ReservedCodesRaiseIllegalOp := by
  unfold Obligations.ReservedCodesRaiseIllegalOp
  exact fun s idle => ⟨present_idle idle _, present_idle idle _⟩

/-- Settles O26. -/
theorem requestWhileBusyIsLost : Obligations.RequestWhileBusyIsLost := by
  unfold Obligations.RequestWhileBusyIsLost
  intro i s request busy
  rw [exec_request request, present_busy busy]

section Requests
variable {s : State}

/-- A step with a start runs the request on its port. -/
theorem step_eq_exec_request (noReset : s.seen.inp.rst = false) (noIntrusion : s.sample.hostIntrudes = false)
    (start : s.seen.inp.opStart = true) : step s = exec s.request s.seen := by
  rw [step_of_request noReset noIntrusion start, exec_request (i := s.request) (decodeRequest_format _)]

/-- In `IDLE` the host may use the transport (R250 (b)). -/
theorem State.hostIntrudes_of_idle (idle : s.fsm = .idle) : s.hostIntrudes = false := by
  simp [State.hostIntrudes, idle, fsmInHandshake, fsmInCommand]

end Requests

/-- Settles O8: in `IDLE` the host's access is no intrusion, so an accepting step is a case of the first clause. -/
theorem stepRunsTheDecodedRequest : Obligations.StepRunsTheDecodedRequest := by
  unfold Obligations.StepRunsTheDecodedRequest
  refine fun s => ⟨step_eq_exec_request, fun ⟨noReset, idle, start⟩ => ?_⟩
  exact step_eq_exec_request noReset (State.hostIntrudes_of_idle (s := s.sample) idle) start

/-! ### A placed word (log 12) -/

section Placed
variable (s : State)

theorem State.withFetchWord_request (w : ReqWord) :
    s.withFetchWord 32 w.toNat = { s with fsm := .idle, sched := portsWithRequest w s.inp :: s.sched } := by
  simp [State.withFetchWord, tableWire]

theorem State.withFetchWord_byte (b : Byte) :
    s.withFetchWord 8 b.toNat = { s with sched := portsWithByte b s.inp :: s.sched } := by
  simp [State.withFetchWord, tableWire]

end Placed

/-- Settles O10: the placed ports present the word alone, so the other agents leave the streams as they are but for the
placed byte. -/
theorem placedWordIsRunByTheNextStep : Obligations.PlacedWordIsRunByTheNextStep := by
  unfold Obligations.PlacedWordIsRunByTheNextStep
  constructor
  · rintro s u w rfl
    rw [State.withFetchWord_request]
    refine ⟨?_, rfl, List.append_nil s.rx, List.append_nil s.tx⟩
    exact step_eq_exec_request rfl (State.hostIntrudes_of_idle rfl) rfl
  · rintro s u b i names rfl
    rw [State.withFetchWord_byte]
    exact ⟨stepRunsTheArrivingByteRow _ b i rfl rfl rfl rfl names, rfl, rfl, rfl⟩

/-! ### The operation port while the core is busy (R92, R78) -/

section Busy
variable {s : State}

/-- The step of a busy core has no branch for a request. -/
theorem step_of_busy (busy : s.fsm ≠ .idle) :
    step s =
      if s.seen.inp.rst then .next s.seen.resetCore
      else if s.sample.hostIntrudes then .refused .hostTransportInFlight
      else advance s.seen := by
  rw [step_eq, present_busy (s := s.seen) busy, ite_self]

/-- The step of a busy core with another operation port: its rules see the same state with other ports. -/
theorem step_of_busy_operation {i : Input} {later : List Input} (busy : s.fsm ≠ .idle) (sched : s.sched = i :: later)
    (start : Bool) (w : ReqWord) :
    step { s with sched := { i with opStart := start, req := w } :: later } =
      if s.seen.inp.rst then .next (s.seen.resetCore.withPorts { i with opStart := start, req := w })
      else if s.sample.hostIntrudes then .refused .hostTransportInFlight
      else advance (s.seen.withPorts { i with opStart := start, req := w }) := by
  cases s
  cases sched
  exact step_of_busy busy

/-- The two steps of a busy core take the same branch, and the sequencer reads neither `op_start` nor `req`. -/
theorem step_operation_irrelevant {i : Input} {later : List Input} (busy : s.fsm ≠ .idle) (sched : s.sched = i :: later)
    (start : Bool) (w : ReqWord) :
    sameApartFromPorts (step { s with sched := { i with opStart := start, req := w } :: later }) (step s) := by
  have sampled : s.seen.inp = i := State.sample_inp_of_sched sched
  rw [step_of_busy_operation busy sched, step_of_busy busy]
  split
  · exact sameApartFromPorts_withPorts _ s.seen.resetCore
  · split
    · rfl
    · exact advance_withPorts (by rw [sampled]) fun _ => by rw [sampled]; exact ⟨rfl, rfl⟩

end Busy

/-- Settles O48. -/
theorem busyCoreIgnoresTheOperationPort : Obligations.BusyCoreIgnoresTheOperationPort := by
  unfold Obligations.BusyCoreIgnoresTheOperationPort
  exact fun s i later start w busy =>
    step_operation_irrelevant (s := { s with sched := i :: later }) busy rfl start w

end Sys2Proof.Machine

/-! ## The handshake (spec 40_handshake.md)

What each state of AUTOBAUD does (R121 to R127), as the step of the sequencer and as the arrival of a byte row (log 6);
then the operation as a whole (R128 to R130). The loop's invariant, `Evaluated`, says what AUTOBAUD has done once it has
evaluated a list of bytes. -/

namespace Sys2Proof.Machine

/-! ### The rule each state runs -/

section Rule
variable {s : State}

theorem advance_hsTx0 (fsm : s.fsm = .hsTx0) : advance s = .next (stepHsTx0 s) := by simp only [advance, fsm]

theorem advance_hsRx (fsm : s.fsm = .hsRx) : advance s = .next (stepHsRx s) := by simp only [advance, fsm]

theorem advance_hsTxm (fsm : s.fsm = .hsTxm) : advance s = .next (stepHsTxm s) := by simp only [advance, fsm]

theorem advance_hsTxa (fsm : s.fsm = .hsTxa) : advance s = .next (stepHsTxa s) := by simp only [advance, fsm]

/-- With a byte in `RX` the rule of `HS_RX` compares it with `CONF` (R123). -/
theorem stepHsRx_cons {b : Byte} {rest : List Byte} (read : s.rx = b :: rest) :
    stepHsRx s = if b = confByte then stepHsMatch s else stepHsMismatch s := by
  simp only [stepHsRx, read]

end Rule

/-- Settles O15. -/
theorem autobaudIsAccepted : Obligations.AutobaudIsAccepted := by
  unfold Obligations.AutobaudIsAccepted
  exact fun _ idle => present_idle idle acceptAutobaud

/-- Settles O34. -/
theorem calibrationByteIsSent : Obligations.CalibrationByteIsSent := by
  unfold Obligations.CalibrationByteIsSent
  refine fun s => ⟨fun fsm => ?_, fun fsm => ?_⟩
  · rw [advance_hsTx0 fsm, stepHsTx0, apply_ite Host.Outcome.next]
    rfl
  · rw [advance_hsTxm fsm, stepHsTxm, apply_ite Host.Outcome.next]
    rfl

/-- Settles O35: the flags and the end depend on `rx_conf` and, at the second confirmation, on `CAL_AFTER_FINAL`. -/
theorem handshakeMatchBranch : Obligations.HandshakeMatchBranch := by
  unfold Obligations.HandshakeMatchBranch
  intro s rest fsm read
  have isMatch : advance s = .next (stepHsMatch s) := by
    rw [advance_hsRx fsm, stepHsRx_cons read]
    rfl
  rw [isMatch]
  refine ⟨fun stage => ?_, fun stage final => ?_, fun stage final => ?_⟩
  · simp [stepHsMatch, confirmFlags, stage, State.goto, State.consume, read]
  · simp [stepHsMatch, confirmFlags, stage, final, State.goto, State.consume, read]
  · simp [stepHsMatch, confirmFlags, stage, final, State.complete, State.consume, read]

/-- Settles O36. -/
theorem handshakeMismatchBranch : Obligations.HandshakeMismatchBranch := by
  unfold Obligations.HandshakeMismatchBranch
  intro s b rest fsm read other
  have isOther : b ≠ confByte := other
  rw [advance_hsRx fsm, stepHsRx_cons read, if_neg isOther]
  simp [stepHsMismatch, State.goto, State.consume, read]

/-- Settles O37. -/
theorem handshakeIterationEnds : Obligations.HandshakeIterationEnds := by
  unfold Obligations.HandshakeIterationEnds
  intro s fsm
  rw [advance_hsTxa fsm, stepHsTxa]
  cases ready : s.inp.transmitReady with
  | false => rfl
  | true =>
    simp only [Bool.and_eq_true, apply_ite Host.Outcome.next]
    rfl

/-! ### The arrival of a byte row in `HS_RX` -/

section Arrival
variable {s : State} {b : Byte}

theorem State.deliver_rx_of_empty (empty : s.rx = []) : (s.deliver [b]).rx = [b] := by
  rw [State.deliver_rx, empty, List.nil_append]

/-- CONF is the one row with its byte: `0x55` has no other pattern (R104, R105). -/
theorem eq_conf_of_encode {i : Instr} (encodes : encode i = .byte confByte) : i = .conf := by
  cases wf : i.wf with
  | true =>
    have names : decodeByte confByte = .ok i := (byteNamesExactlyTheRowItEncodes confByte i).mpr ⟨encodes, wf⟩
    exact (Except.ok.inj names).symm
  | false => obtain rfl | rfl := wf_eq_false_iff.mp wf <;> cases encodes

end Arrival

/-- Settles O29: the byte that arrives is the one at the head of `RX`, and the only one. -/
theorem confirmationByteAdvancesTheHandshake : Obligations.ConfirmationByteAdvancesTheHandshake := by
  unfold Obligations.ConfirmationByteAdvancesTheHandshake
  intro s fsm empty
  rw [exec_byte (i := .conf) rfl, receiveByte]
  obtain ⟨first, second, finished⟩ :=
    handshakeMatchBranch (s.deliver [confByte]) [] fsm (State.deliver_rx_of_empty empty)
  split
  · simp [first ‹_›, empty]
  · have stage : s.rxConf = true := Bool.eq_true_of_not_eq_false ‹_›
    split
    · simp [second stage ‹_›, empty]
    · simp [finished stage (Bool.eq_false_of_not_eq_true ‹_›), empty]

/-- Settles O30: only CONF encodes to `0x55`, so any other row's byte is a mismatch. -/
theorem otherByteRowsRestartTheRamp : Obligations.OtherByteRowsRestartTheRamp := by
  unfold Obligations.OtherByteRowsRestartTheRamp
  intro i b s encodes notConf fsm empty
  have other : b ≠ confByte := fun isConf => notConf (eq_conf_of_encode (isConf ▸ encodes))
  rw [exec_byte encodes, receiveByte,
    handshakeMismatchBranch (s.deliver [b]) b [] fsm (State.deliver_rx_of_empty empty) other]
  simp [empty]

/-! ### Runs with the transport ready -/

/-- The next `k` scheduled inputs are there, and each leaves the transport ready and the streams alone. -/
def readyFor : Nat → List Input → Prop
  | 0, _ => True
  | _ + 1, [] => False
  | k + 1, i :: rest => i.ready ∧ readyFor k rest

theorem readyFor_append {polls : List Input} (ready : ∀ i ∈ polls, i.ready) (later : List Input) :
    readyFor polls.length (polls ++ later) := by
  induction polls with
  | nil => trivial
  | cons i rest ih =>
    obtain ⟨head, tail⟩ := List.forall_mem_cons.mp ready
    exact ⟨head, ih tail⟩

/-- Two runs one after the other are one run. -/
theorem core_run_add {M : Host.Core} {s t : M.State} {k : Nat} (run : M.run k s = .next t) (l : Nat) :
    M.run (k + l) s = M.run l t := by
  induction k generalizing s with
  | zero =>
    cases run
    rw [Nat.zero_add]
  | succ k ih =>
    rw [Nat.succ_add]
    cases next : M.step s with
    | next u =>
      rw [core_run_succ next] at run ⊢
      exact ih run
    | fault r | refused r => simp [Host.Core.run, next] at run

theorem run_add {s t : State} {k : Nat} (run : Host.Core.run Sys2Proof.core k s = .next t) (l : Nat) :
    Host.Core.run Sys2Proof.core (k + l) s = Host.Core.run Sys2Proof.core l t :=
  core_run_add (M := Sys2Proof.core) run l

section Ready
variable {s : State} {k : Nat}

/-- What the first of the ready inputs is to the step that samples it. -/
theorem readyFor_sample (ready : readyFor (k + 1) s.sched) : s.sample.inp.ready ∧ readyFor k s.sample.sched := by
  cases sched : s.sched with
  | nil =>
    rw [sched] at ready
    exact ready.elim
  | cons i rest =>
    rw [sched] at ready
    rwa [State.sample_inp_of_sched sched, State.sample_sched, sched]

/-- In a ready step the rules see the sampled state, and the host does not intrude. -/
theorem seen_of_ready (ready : s.sample.inp.ready) : s.seen = s.sample ∧ s.sample.hostIntrudes = false := by
  obtain ⟨-, arrivals, takes, sends, -⟩ := ready
  constructor
  · simp only [State.seen, State.environment, arrivals, takes, sends, List.append_nil, List.drop_zero]
  · exact State.hostIntrudes_of_inactive (by simp [Input.hostActive, takes, sends])

/-- A ready step of a busy core is the sequencer's, whatever is on the operation port. -/
theorem step_of_ready (busy : s.fsm ≠ .idle) (ready : s.sample.inp.ready) : step s = advance s.sample := by
  obtain ⟨seen, noIntrusion⟩ := seen_of_ready ready
  rw [stepWithoutAcceptanceIsTheSequencers s (seen ▸ ready.1) noIntrusion (.inr busy), seen]

/-- A ready step of an idle core accepts the request on the operation port. -/
theorem step_accepts_of_ready (idle : s.fsm = .idle) (ready : s.sample.inp.ready)
    (start : s.sample.inp.opStart = true) :
    step s = .next (acceptEffect (decodeRequest s.sample.inp.req) s.sample) := by
  obtain ⟨seen, noIntrusion⟩ := seen_of_ready ready
  rw [step_of_request (seen ▸ ready.1) noIntrusion start, present_idle (s := s.seen) idle, State.request, seen]

end Ready

/-! ### The bytes evaluated -/

/-- One byte more makes a pair where it and the byte before it are confirmations. -/
theorem hasConfPair_concat (bs : List Byte) (b : Byte) :
    hasConfPair (bs ++ [b]) = (hasConfPair bs || (bs.getLast? == some 0x55 && b == 0x55)) := by
  induction bs with
  | nil => simp [hasConfPair]
  | cons a bs ih =>
    cases bs with
    | nil => simp [hasConfPair]
    | cons c bs =>
      simp only [List.cons_append, hasConfPair, List.getLast?_cons_cons] at ih ⊢
      rw [ih, Bool.or_assoc]

theorem hasConfPair_concat_eq_false_iff {bs : List Byte} {b : Byte} :
    hasConfPair (bs ++ [b]) = false ↔
      hasConfPair bs = false ∧ (bs.getLast? == some 0x55 && b == 0x55) = false := by
  rw [hasConfPair_concat, Bool.or_eq_false_iff]

theorem hasConfPair_concat_conf {bs : List Byte} (oneBefore : (bs.getLast? == some 0x55) = true) :
    hasConfPair (bs ++ [0x55]) = true := by
  rw [hasConfPair_concat, oneBefore, beq_self_eq_true, Bool.and_self, Bool.or_true]

theorem mismatches_append (as bs : List Byte) : mismatches (as ++ bs) = mismatches as + mismatches bs := by
  simp [mismatches]

theorem mismatches_conf : mismatches [0x55] = 0 := rfl

theorem mismatches_other {b : Byte} (other : b ≠ 0x55) : mismatches [b] = 1 := by
  have counts : (b != 0x55) = true := bne_iff_ne.mpr other
  rw [mismatches, List.filter_cons_of_pos (p := (· != 0x55)) counts]
  rfl

/-! ### AUTOBAUD as a whole (R129) -/

/-- The loop's invariant: where an AUTOBAUD accepted in `s` stands when it has evaluated the bytes `read` and sent `sent`
bytes, in `t`, at `f`, with the transport ready for `k` steps to come. -/
structure Evaluated (s : State) (read : List Byte) (sent : Nat) (f : Fsm) (k : Nat) (t : State) : Prop where
  fsm : t.fsm = f
  first : t.rxConf = (read.getLast? == some 0x55)
  second : t.cfConf = hasConfPair read
  count : t.iter = BitVec.ofNat 16 read.length
  rx : s.rx = read ++ t.rx
  tx : t.tx = s.tx ++ List.replicate sent 0xAA
  params : t.params = s.params
  ready : readyFor k t.sched

namespace Evaluated

section Steps
variable {s t : State} {read rest : List Byte} {b : Byte} {sent k : Nat} {f : Fsm}

theorem rx_of_received (evaluated : Evaluated s read sent f k t) (received : s.rx = read ++ rest) : t.rx = rest :=
  List.append_cancel_left (evaluated.rx.symm.trans received)

/-- The count is at the bound exactly where that many bytes are evaluated (R26, R127). -/
theorem count_eq_hsMax_iff (evaluated : Evaluated s read sent f k t) (within : read.length ≤ s.params.hsMax.toNat) :
    t.iter = t.params.hsMax ↔ read.length = s.params.hsMax.toNat := by
  rw [evaluated.count, evaluated.params]
  bv_omega

/-- A byte sent. -/
theorem after_send (evaluated : Evaluated s read sent f (k + 1) t) (g : Fsm) (status : Status) (done : Bool) :
    Evaluated s read (sent + 1) g k
      { t.sample with tx := t.tx ++ [0xAA], poll := 0, status := status, done := done, fsm := g } where
  fsm := rfl
  first := evaluated.first
  second := evaluated.second
  count := evaluated.count
  rx := evaluated.rx
  tx := by rw [evaluated.tx, List.append_assoc, List.replicate_succ']
  params := evaluated.params
  ready := (readyFor_sample evaluated.ready).2

/-- A byte read, with the flags it leaves. -/
theorem after_read (evaluated : Evaluated s read sent f (k + 1) t) (received : s.rx = read ++ b :: rest)
    {first second : Bool} (isConf : first = (b == 0x55)) (pair : second = hasConfPair (read ++ [b]))
    (g : Fsm) (status : Status) (done : Bool) :
    Evaluated s (read ++ [b]) sent g k
      { t.sample with
        rx := rest, iter := t.iter + 1, poll := 0, rxConf := first, cfConf := second, status := status, done := done,
        fsm := g } where
  fsm := rfl
  first := by simp [isConf]
  second := pair
  count := by
    rw [evaluated.count, List.length_append, BitVec.ofNat_add]
    rfl
  rx := by rw [received, List.append_assoc, List.singleton_append]
  tx := evaluated.tx
  params := evaluated.params
  ready := (readyFor_sample evaluated.ready).2

/-- A step in flight is the sequencer's, and its transport is ready. -/
theorem step_eq_advance (evaluated : Evaluated s read sent f (k + 1) t) (busy : f ≠ .idle) :
    step t = advance t.sample ∧ t.sample.inp.transmitReady = true := by
  obtain ⟨ready, -⟩ := readyFor_sample evaluated.ready
  have inFlight : t.fsm ≠ .idle := by rwa [evaluated.fsm]
  refine ⟨step_of_ready inFlight ready, ?_⟩
  obtain ⟨-, -, -, -, transmitReady⟩ := ready
  exact transmitReady

/-- `HS_TX0` (R122). -/
theorem step_hsTx0 (evaluated : Evaluated s read sent .hsTx0 (k + 1) t) :
    ∃ u : State, step t = .next u ∧ Evaluated s read (sent + 1) .hsRx k u := by
  obtain ⟨step_eq, transmitReady⟩ := evaluated.step_eq_advance nofun
  obtain ⟨sends, -⟩ := calibrationByteIsSent t.sample
  rw [sends evaluated.fsm, if_pos transmitReady] at step_eq
  exact ⟨_, step_eq, evaluated.after_send .hsRx t.status false⟩

/-- `HS_TXM` (R126). -/
theorem step_hsTxm (evaluated : Evaluated s read sent .hsTxm (k + 1) t) :
    ∃ u : State, step t = .next u ∧ Evaluated s read (sent + 1) .hsTxa k u := by
  obtain ⟨step_eq, transmitReady⟩ := evaluated.step_eq_advance nofun
  obtain ⟨-, sends⟩ := calibrationByteIsSent t.sample
  rw [sends evaluated.fsm, if_pos transmitReady] at step_eq
  exact ⟨_, step_eq, evaluated.after_send .hsTxa t.status false⟩

/-- `HS_TXA` without a pair (R127): the next iteration begins below the bound, and the operation gives up at it. -/
theorem step_hsTxa (evaluated : Evaluated s read sent .hsTxa (k + 1) t) (noPair : hasConfPair read = false)
    (within : read.length ≤ s.params.hsMax.toNat) :
    ∃ u : State, step t = .next u ∧
      if read.length = s.params.hsMax.toNat then
        Evaluated s read (sent + 1) .idle k u ∧ u.status = .hsTimeout ∧ u.done = true
      else Evaluated s read (sent + 1) .hsRx k u := by
  obtain ⟨step_eq, transmitReady⟩ := evaluated.step_eq_advance nofun
  have unready : ¬t.sample.inp.transmitReady = false := by simp [transmitReady]
  have unconfirmed : ¬(t.sample.rxConf = true ∧ t.sample.cfConf = true) := by simp [evaluated.second, noPair]
  rw [handshakeIterationEnds t.sample evaluated.fsm, if_neg unready, if_neg unconfirmed] at step_eq
  have atBound : t.sample.iter = t.sample.params.hsMax ↔ _ := evaluated.count_eq_hsMax_iff within
  by_cases last : read.length = s.params.hsMax.toNat
  · rw [if_pos (atBound.mpr last)] at step_eq
    exact ⟨_, step_eq, by rw [if_pos last]; exact ⟨evaluated.after_send .idle .hsTimeout true, rfl, rfl⟩⟩
  · rw [if_neg (mt atBound.mp last)] at step_eq
    exact ⟨_, step_eq, by rw [if_neg last]; exact evaluated.after_send .hsRx t.status false⟩

/-- `HS_TXA` after a pair (R127). -/
theorem step_hsTxa_of_pair (evaluated : Evaluated s read sent .hsTxa (k + 1) t) (first : t.rxConf = true)
    (pair : hasConfPair read = true) :
    ∃ u : State, step t = .next u ∧ Evaluated s read (sent + 1) .idle k u ∧ u.status = .ok ∧ u.done = true := by
  obtain ⟨step_eq, transmitReady⟩ := evaluated.step_eq_advance nofun
  have unready : ¬t.sample.inp.transmitReady = false := by simp [transmitReady]
  have confirmed : t.sample.rxConf = true ∧ t.sample.cfConf = true := ⟨first, evaluated.second.trans pair⟩
  rw [handshakeIterationEnds t.sample evaluated.fsm, if_neg unready, if_pos confirmed] at step_eq
  exact ⟨_, step_eq, evaluated.after_send .idle .ok true, rfl, rfl⟩

/-- `HS_RX` with a byte other than `CONF` (R125). -/
theorem step_mismatch (evaluated : Evaluated s read sent .hsRx (k + 1) t) (received : s.rx = read ++ b :: rest)
    (other : b ≠ 0x55) (noPair : hasConfPair read = false) :
    ∃ u : State, step t = .next u ∧ Evaluated s (read ++ [b]) sent .hsTxm k u := by
  obtain ⟨step_eq, -⟩ := evaluated.step_eq_advance nofun
  have isOther : (b == 0x55) = false := beq_false_of_ne other
  have stillNoPair : hasConfPair (read ++ [b]) = false :=
    hasConfPair_concat_eq_false_iff.mpr ⟨noPair, by rw [isOther, Bool.and_false]⟩
  rw [handshakeMismatchBranch t.sample b rest evaluated.fsm (evaluated.rx_of_received received) other] at step_eq
  exact ⟨_, step_eq, evaluated.after_read received isOther.symm stillNoPair.symm .hsTxm t.status false⟩

/-- `HS_RX` with a first confirmation (R124). -/
theorem step_first_match (evaluated : Evaluated s read sent .hsRx (k + 1) t) (received : s.rx = read ++ 0x55 :: rest)
    (noneBefore : (read.getLast? == some 0x55) = false) :
    ∃ u : State, step t = .next u ∧ Evaluated s (read ++ [0x55]) sent .hsTxa k u := by
  obtain ⟨step_eq, -⟩ := evaluated.step_eq_advance nofun
  have stage : t.sample.rxConf = false := evaluated.first.trans noneBefore
  have pair : t.cfConf = hasConfPair (read ++ [0x55]) := by
    rw [hasConfPair_concat, noneBefore, Bool.false_and, Bool.or_false, evaluated.second]
  obtain ⟨first, -, -⟩ := handshakeMatchBranch t.sample rest evaluated.fsm (evaluated.rx_of_received received)
  rw [first stage] at step_eq
  exact ⟨_, step_eq, evaluated.after_read received rfl pair .hsTxa t.status false⟩

/-- `HS_RX` with a second consecutive confirmation (R124): one more send under `CAL_AFTER_FINAL`, else the end. -/
theorem step_second_match (evaluated : Evaluated s read sent .hsRx (k + 1) t) (received : s.rx = read ++ 0x55 :: rest)
    (oneBefore : (read.getLast? == some 0x55) = true) :
    ∃ u : State, step t = .next u ∧
      if s.params.calAfterFinal then Evaluated s (read ++ [0x55]) sent .hsTxa k u
      else Evaluated s (read ++ [0x55]) sent .idle k u ∧ u.status = .ok ∧ u.done = true := by
  obtain ⟨step_eq, -⟩ := evaluated.step_eq_advance nofun
  have stage : t.sample.rxConf = true := evaluated.first.trans oneBefore
  have pair : true = hasConfPair (read ++ [0x55]) := (hasConfPair_concat_conf oneBefore).symm
  obtain ⟨-, second, finished⟩ := handshakeMatchBranch t.sample rest evaluated.fsm (evaluated.rx_of_received received)
  rw [← evaluated.params]
  cases final : t.params.calAfterFinal with
  | true =>
    rw [second stage final] at step_eq
    exact ⟨_, step_eq, evaluated.after_read received stage pair .hsTxa t.status false⟩
  | false =>
    rw [finished stage final] at step_eq
    exact ⟨_, step_eq, evaluated.after_read received stage pair .idle .ok true, rfl, rfl⟩

/-- The evaluation of one byte that makes no pair, up to the send that ends its iteration (R124 to R126). -/
theorem run_byte (evaluated : Evaluated s read sent .hsRx (1 + mismatches [b] + k) t)
    (received : s.rx = read ++ b :: rest) (noPair : hasConfPair (read ++ [b]) = false) :
    ∃ u : State, Host.Core.run Sys2Proof.core (1 + mismatches [b]) t = .next u ∧
      Evaluated s (read ++ [b]) (sent + mismatches [b]) .hsTxa k u := by
  obtain ⟨noPairBefore, noPairNow⟩ := hasConfPair_concat_eq_false_iff.mp noPair
  rw [Nat.add_assoc, Nat.add_comm 1] at evaluated
  by_cases isConf : b = 0x55
  · subst isConf
    rw [mismatches_conf] at evaluated ⊢
    rw [Nat.zero_add] at evaluated
    obtain ⟨u, read, evaluated⟩ := evaluated.step_first_match received (by simpa using noPairNow)
    exact ⟨u, run_succ_of_step read 0, evaluated⟩
  · rw [mismatches_other isConf] at evaluated ⊢
    rw [Nat.add_comm 1] at evaluated
    obtain ⟨v, read, evaluated⟩ := evaluated.step_mismatch received isConf noPairBefore
    obtain ⟨u, sent, evaluated⟩ := evaluated.step_hsTxm
    exact ⟨u, (run_succ_of_step read 1).trans (run_succ_of_step sent 0), evaluated⟩

end Steps

end Evaluated

/-- The steps of an AUTOBAUD that has evaluated the bytes `read` without a pair: acceptance and first send, and for each
byte its reading, the send that ends its iteration, and the send of a mismatch (R121 to R127). -/
def loopSteps (read : List Byte) : Nat := 2 + 2 * read.length + mismatches read

/-- The bytes it has sent in these steps (R129). -/
def loopSends (read : List Byte) : Nat := 1 + read.length + mismatches read

/-- The bytes AUTOBAUD sends after the second confirmation (R124). -/
def finalSends (p : Params) : Nat := if p.calAfterFinal then 1 else 0

theorem loopSteps_concat (read : List Byte) (b : Byte) :
    loopSteps (read ++ [b]) = loopSteps read + (1 + mismatches [b] + 1) := by
  simp only [loopSteps, mismatches_append, List.length_append, List.length_singleton]
  omega

theorem loopSends_concat (read : List Byte) (b : Byte) :
    loopSends (read ++ [b]) = loopSends read + mismatches [b] + 1 := by
  simp only [loopSends, mismatches_append, List.length_append, List.length_singleton]
  omega

theorem finalSends_of_final {p : Params} (final : p.calAfterFinal = true) : finalSends p = 1 := if_pos final

theorem finalSends_of_no_final {p : Params} (final : p.calAfterFinal = false) : finalSends p = 0 := by
  rw [finalSends, final, if_neg Bool.false_ne_true]

/-- The presentation of an AUTOBAUD to an idle core, in a step with the transport ready. -/
structure State.StartsAutobaud (s : State) : Prop where
  idle : s.fsm = .idle
  start : s.sample.inp.opStart = true
  request : decodeRequest s.sample.inp.req = .autobaud

section Autobaud
variable {s : State} {read rest : List Byte} {k : Nat}

/-- The accepting step (R121). -/
theorem State.StartsAutobaud.step_eq (starts : s.StartsAutobaud) (ready : readyFor (k + 1) s.sched) :
    ∃ t : State, step s = .next t ∧ Evaluated s [] 0 .hsTx0 k t := by
  obtain ⟨readyStart, ready⟩ := readyFor_sample ready
  have accepts := step_accepts_of_ready starts.idle readyStart starts.start
  rw [starts.request] at accepts
  exact ⟨_, accepts, rfl, rfl, rfl, rfl, rfl, (List.append_nil s.tx).symm, rfl, ready⟩

/-- The loop of AUTOBAUD, by the number of bytes: after an acceptance and a first send, every byte that makes no pair
takes the steps of its evaluation and one send more, and `HS_MAX` of them are the end (R122 to R128). -/
theorem State.StartsAutobaud.run_bytes (starts : s.StartsAutobaud) (inRange : s.params.hsMax ≠ 0)
    (received : s.rx = read ++ rest) (noPair : hasConfPair read = false)
    (within : read.length ≤ s.params.hsMax.toNat) (ready : readyFor (loopSteps read + k) s.sched) :
    ∃ t : State, Host.Core.run Sys2Proof.core (loopSteps read) s = .next t ∧
      if read.length = s.params.hsMax.toNat then
        Evaluated s read (loopSends read) .idle k t ∧ t.status = .hsTimeout ∧ t.done = true
      else Evaluated s read (loopSends read) .hsRx k t := by
  induction read using List.reverseRecOn generalizing rest k with
  | nil =>
    have ready : readyFor (k + 1 + 1) s.sched := by rwa [Nat.add_comm] at ready
    obtain ⟨u, accepted, evaluated⟩ := starts.step_eq ready
    obtain ⟨t, sent, evaluated⟩ := evaluated.step_hsTx0
    have below : ([] : List Byte).length ≠ s.params.hsMax.toNat := (toNat_zero_lt inRange).ne
    refine ⟨t, (run_succ_of_step accepted 1).trans (run_succ_of_step sent 0), ?_⟩
    rwa [if_neg below]
  | append_singleton read b ih =>
    have length : (read ++ [b]).length = read.length + 1 := List.length_append
    have below : read.length < s.params.hsMax.toNat := by omega
    have receivedByte : s.rx = read ++ b :: rest := by rw [received, List.append_assoc, List.singleton_append]
    obtain ⟨noPairBefore, -⟩ := hasConfPair_concat_eq_false_iff.mp noPair
    rw [loopSteps_concat, Nat.add_assoc, Nat.add_assoc _ 1 k, Nat.add_comm 1 k] at ready
    obtain ⟨t, run, evaluated⟩ := ih receivedByte noPairBefore below.le ready
    rw [if_neg below.ne] at evaluated
    obtain ⟨u, runByte, evaluated⟩ := evaluated.run_byte receivedByte noPair
    obtain ⟨v, sent, evaluated⟩ := evaluated.step_hsTxa noPair within
    rw [loopSteps_concat, loopSends_concat]
    exact ⟨v, (run_add run _).trans ((run_add runByte 1).trans (run_succ_of_step sent 0)), evaluated⟩

namespace Evaluated

/-- The second consecutive confirmation ends the operation, after one more send under `CAL_AFTER_FINAL` (R124, R127). -/
theorem run_second_match {t : State} {sent : Nat}
    (evaluated : Evaluated s read sent .hsRx (1 + finalSends s.params) t)
    (received : s.rx = read ++ 0x55 :: rest) (oneBefore : (read.getLast? == some 0x55) = true) :
    ∃ u : State, Host.Core.run Sys2Proof.core (1 + finalSends s.params) t = .next u ∧
      Evaluated s (read ++ [0x55]) (sent + finalSends s.params) .idle 0 u ∧
      u.status = .ok ∧ u.done = true := by
  rw [Nat.add_comm] at evaluated
  obtain ⟨u, second, ends⟩ := evaluated.step_second_match received oneBefore
  cases final : s.params.calAfterFinal with
  | true =>
    rw [final, finalSends_of_final final] at ends
    rw [finalSends_of_final final]
    obtain ⟨v, sent, ends⟩ :=
      Evaluated.step_hsTxa_of_pair ends (ends.first.trans (by simp)) (hasConfPair_concat_conf oneBefore)
    exact ⟨v, (run_succ_of_step second 1).trans (run_succ_of_step sent 0), ends⟩
  | false =>
    rw [final, finalSends_of_no_final final] at ends
    rw [finalSends_of_no_final final]
    exact ⟨u, run_succ_of_step second 0, ends⟩

end Evaluated

/-- The loop and its end at the first pair, within the bound (R129, R130). -/
theorem State.StartsAutobaud.run_pair (starts : s.StartsAutobaud) (received : s.rx = read ++ 0x55 :: rest)
    (noPair : hasConfPair read = false) (oneBefore : (read.getLast? == some 0x55) = true)
    (below : read.length < s.params.hsMax.toNat)
    (ready : readyFor (loopSteps read + (1 + finalSends s.params)) s.sched) :
    ∃ t : State, Host.Core.run Sys2Proof.core (loopSteps read + (1 + finalSends s.params)) s = .next t ∧
      Evaluated s (read ++ [0x55]) (loopSends read + finalSends s.params) .idle 0 t ∧
      t.status = .ok ∧ t.done = true := by
  have inRange : s.params.hsMax ≠ 0 := by bv_omega
  obtain ⟨t, run, evaluated⟩ := starts.run_bytes inRange received noPair below.le ready
  rw [if_neg below.ne] at evaluated
  obtain ⟨u, runPair, ends⟩ := evaluated.run_second_match received oneBefore
  exact ⟨u, (run_add run _).trans runPair, ends⟩

end Autobaud

/-- What the obligations' schedule says of the start: its first input is sampled, and all of them are ready. -/
theorem startsAutobaud_of_sched {s : State} {start : Input} {polls later : List Input} (idle : s.fsm = .idle)
    (readyStart : start.ready) (opStart : start.opStart = true) (request : decodeRequest start.req = .autobaud)
    (ready : ∀ i ∈ polls, i.ready) (sched : s.sched = start :: polls ++ later) :
    s.StartsAutobaud ∧ readyFor (polls.length + 1) s.sched := by
  have sampled : s.sample.inp = start := State.sample_inp_of_sched sched
  refine ⟨⟨idle, sampled ▸ opStart, sampled ▸ request⟩, ?_⟩
  rw [sched]
  exact readyFor_append (polls := start :: polls) (List.forall_mem_cons.mpr ⟨readyStart, ready⟩) later

/-- Settles O58: the loop over the bytes up to the first of the pair, then the second confirmation, and under
`CAL_AFTER_FINAL` one more send. -/
theorem autobaudEndsAtTheFirstPair : Obligations.AutobaudEndsAtTheFirstPair := by
  unfold Obligations.AutobaudEndsAtTheFirstPair
  intro s start polls later before rest idle readyStart opStart request ready sched received noPair within length
  obtain ⟨starts, ready⟩ := startsAutobaud_of_sched idle readyStart opStart request ready sched
  have oneBefore : ((before ++ [0x55]).getLast? == some 0x55) = true := by
    rw [List.getLast?_concat, beq_self_eq_true]
  have receivedFirst : s.rx = before ++ [0x55] ++ 0x55 :: rest := by simp [received]
  have receivedPair : s.rx = before ++ [0x55] ++ [0x55] ++ rest := by simp [received]
  have bytes : (before ++ [0x55]).length = before.length + 1 := List.length_append
  have bytesOfPair : (before ++ [0x55] ++ [0x55]).length = before.length + 2 := by simp
  have length : polls.length = 2 * (before.length + 2) + mismatches before + finalSends s.params := length
  have steps : polls.length + 1 = loopSteps (before ++ [0x55]) + (1 + finalSends s.params) := by
    rw [length, loopSteps_concat, mismatches_conf, loopSteps]
    omega
  have sends : loopSends (before ++ [0x55]) = before.length + 2 + mismatches before := by
    rw [loopSends_concat, mismatches_conf, loopSends]
    omega
  have room : before.length + 2 < 2 ^ 16 := within.trans_lt s.params.hsMax.isLt
  rw [steps] at ready ⊢
  obtain ⟨t, run, ends, status, done⟩ := starts.run_pair receivedFirst noPair oneBefore (by omega) ready
  have count : t.iter.toNat = before.length + 2 := by
    rw [ends.count, bytesOfPair, BitVec.toNat_ofNat, Nat.mod_eq_of_lt room]
  exact ⟨t, run, status, done, ends.fsm, by simp [ends.first],
    ends.second.trans (hasConfPair_concat_conf oneBefore), count, ends.rx_of_received receivedPair, sends ▸ ends.tx⟩

/-- Settles O59: the loop over `HS_MAX` bytes. -/
theorem autobaudGivesUpAtTheBound : Obligations.AutobaudGivesUpAtTheBound := by
  unfold Obligations.AutobaudGivesUpAtTheBound
  intro s start polls later bytes rest idle readyStart opStart request ready sched received noPair atBound inRange length
  obtain ⟨starts, ready⟩ := startsAutobaud_of_sched idle readyStart opStart request ready sched
  have steps : polls.length + 1 = loopSteps bytes := by
    rw [length, loopSteps]
    omega
  rw [steps] at ready ⊢
  obtain ⟨t, run, ends⟩ := starts.run_bytes (k := 0) inRange received noPair atBound.le ready
  rw [if_pos atBound] at ends
  obtain ⟨ends, status, done⟩ := ends
  have count : t.iter = s.params.hsMax := by rw [ends.count, atBound, BitVec.ofNat_toNat, BitVec.setWidth_eq]
  exact ⟨t, run, status, done, ends.fsm, ends.second.trans noPair, ends.first, count, ends.rx_of_received received,
    ends.tx⟩

end Sys2Proof.Machine

/-! ## The command unit (spec 41_command.md)

What PACK builds (R151) and what each state of SENDCMD does (R157, R158, R160), as the step of the sequencer and as the
arrival of a command byte (log 6); then SENDCMD as a whole (R161). The loop's invariant, `Transmitted`, says what SENDCMD
has done once it has sent the command a number of times and read a list of bytes. -/

namespace Sys2Proof.Machine

/-! ### The accepting steps -/

/-- The fields of a built command byte read back as they were put in: no two of the shifted fields share a bit (R151). -/
theorem packByte_fields (pga : Gain) (mode : Mode) (vref : Vref) (inch : BitVec 2) :
    (packByte pga mode vref inch).extractLsb' 6 2 = 3 ∧ (packByte pga mode vref inch).extractLsb' 4 2 = inch ∧
    (packByte pga mode vref inch).extractLsb' 3 1 = vref.bit ∧ (packByte pga mode vref inch).extractLsb' 2 1 = mode.bit ∧
    (packByte pga mode vref inch).extractLsb' 1 1 = 0 ∧ (packByte pga mode vref inch).extractLsb' 0 1 = pga.bit := by
  unfold packByte
  generalize vref.bit = v, mode.bit = m, pga.bit = g
  revert inch v m g
  decide

/-- Settles O16. -/
theorem packBuildsTheCommandByte : Obligations.PackBuildsTheCommandByte := by
  unfold Obligations.PackBuildsTheCommandByte
  exact fun pga mode vref inch _ idle =>
    ⟨packByte pga mode vref inch, present_idle idle _, rfl, packByte_fields pga mode vref inch⟩

/-- Settles O17. -/
theorem sendcmdIsAccepted : Obligations.SendcmdIsAccepted := by
  unfold Obligations.SendcmdIsAccepted
  exact fun cmd _ idle => present_idle idle (acceptSendcmd cmd)

/-! ### The rule each state runs -/

section Rule
variable {s : State}

theorem advance_ctTx (fsm : s.fsm = .ctTx) : advance s = .next (stepCtTx s) := by simp only [advance, fsm]

theorem advance_ctRx (fsm : s.fsm = .ctRx) : advance s = .next (stepCtRx s) := by simp only [advance, fsm]

/-- With a byte in `RX` the rule of `CT_RX` compares it with the command, then the count with its bound (R160). -/
theorem stepCtRx_cons {b : Byte} {rest : List Byte} (read : s.rx = b :: rest) :
    stepCtRx s =
      if b = s.cmdLat then s.consume.complete
      else if s.tries = s.params.echoMax then s.consume.raise .echoTimeout
      else s.consume.goto .ctTx := by
  simp only [stepCtRx, read]

/-- What reading a byte leaves of the state. -/
theorem State.consume_of_cons {b : Byte} {rest : List Byte} (read : s.rx = b :: rest) :
    s.consume = { s with rx := rest, poll := 0 } := by
  simp only [State.consume, read, List.tail_cons]

end Rule

/-- Settles O38. -/
theorem commandByteIsSent : Obligations.CommandByteIsSent := by
  unfold Obligations.CommandByteIsSent
  intro s fsm
  rw [advance_ctTx fsm, stepCtTx, apply_ite Host.Outcome.next]
  rfl

/-- Settles O39: one clause for each branch of the rule. -/
theorem echoIsValidated : Obligations.EchoIsValidated := by
  unfold Obligations.EchoIsValidated
  intro s b rest fsm read
  rw [advance_ctRx fsm, stepCtRx_cons read, State.consume_of_cons read]
  refine ⟨fun echo => ?_, fun other last => ?_, fun other more => ?_⟩
  · rw [if_pos echo]
    rfl
  · rw [if_neg other, if_pos last]
    rfl
  · rw [if_neg other, if_neg more]
    rfl

/-- Settles O31: the byte that arrives is the one at the head of `RX`, and the only one. -/
theorem commandByteIsTheEcho : Obligations.CommandByteIsTheEcho := by
  unfold Obligations.CommandByteIsTheEcho
  intro inch vref mode pga s fsm empty
  rw [exec_byte (i := .cmd inch vref mode pga) rfl, receiveByte]
  generalize cmdByte inch vref mode pga = b
  obtain ⟨echoed, gaveUp, retried⟩ := echoIsValidated (s.deliver [b]) b [] fsm (State.deliver_rx_of_empty empty)
  split
  · simp [echoed ‹_›, empty]
  · split
    · simp [gaveUp ‹_› ‹_›, empty]
    · simp [retried ‹_› ‹_›, empty]

/-! ### SENDCMD as a whole (R161) -/

/-- The loop's invariant: where a SENDCMD of `cmd` presented in `s` stands when it has sent the command `sent` times and
read the bytes `read`, in `t`, at `f`, with the transport ready for `k` steps to come. -/
structure Transmitted (s : State) (cmd : Byte) (read : List Byte) (sent : Nat) (f : Fsm) (k : Nat) (t : State) : Prop where
  fsm : t.fsm = f
  command : t.cmdLat = cmd
  count : t.tries = BitVec.ofNat 16 sent
  rx : s.rx = read ++ t.rx
  tx : t.tx = s.tx ++ List.replicate sent cmd
  params : t.params = s.params
  ready : readyFor k t.sched

namespace Transmitted

section Steps
variable {s t : State} {cmd b : Byte} {read rest : List Byte} {sent k : Nat} {f : Fsm}

theorem rx_of_received (transmitted : Transmitted s cmd read sent f k t) (received : s.rx = read ++ rest) : t.rx = rest :=
  List.append_cancel_left (transmitted.rx.symm.trans received)

/-- The count does not wrap within the bound (R27). -/
theorem count_toNat (transmitted : Transmitted s cmd read sent f k t) (within : sent ≤ s.params.echoMax.toNat) :
    t.tries.toNat = sent := by
  rw [transmitted.count, BitVec.toNat_ofNat, Nat.mod_eq_of_lt (within.trans_lt s.params.echoMax.isLt)]

/-- The count is at the bound exactly where the command is sent that many times (R27, R160). -/
theorem count_eq_echoMax_iff (transmitted : Transmitted s cmd read sent f k t)
    (within : sent ≤ s.params.echoMax.toNat) : t.tries = t.params.echoMax ↔ sent = s.params.echoMax.toNat := by
  rw [← BitVec.toNat_inj, transmitted.count_toNat within, transmitted.params]

/-- A byte read. -/
theorem after_read (transmitted : Transmitted s cmd read sent f (k + 1) t) (received : s.rx = read ++ b :: rest)
    (g : Fsm) (status : Status) (done : Bool) :
    Transmitted s cmd (read ++ [b]) sent g k
      { t.sample with rx := rest, poll := 0, status := status, done := done, fsm := g } where
  fsm := rfl
  command := transmitted.command
  count := transmitted.count
  rx := by rw [received, List.append_assoc, List.singleton_append]
  tx := transmitted.tx
  params := transmitted.params
  ready := (readyFor_sample transmitted.ready).2

/-- A step in flight is the sequencer's, and its transport is ready. -/
theorem step_eq_advance (transmitted : Transmitted s cmd read sent f (k + 1) t) (busy : f ≠ .idle) :
    step t = advance t.sample ∧ t.sample.inp.transmitReady = true := by
  obtain ⟨ready, -⟩ := readyFor_sample transmitted.ready
  have inFlight : t.fsm ≠ .idle := by rwa [transmitted.fsm]
  refine ⟨step_of_ready inFlight ready, ?_⟩
  obtain ⟨-, -, -, -, transmitReady⟩ := ready
  exact transmitReady

/-- `CT_TX` (R158). -/
theorem step_ctTx (transmitted : Transmitted s cmd read sent .ctTx (k + 1) t) :
    ∃ u : State, step t = .next u ∧ Transmitted s cmd read (sent + 1) .ctRx k u := by
  obtain ⟨step_eq, transmitReady⟩ := transmitted.step_eq_advance nofun
  rw [commandByteIsSent t.sample transmitted.fsm, if_pos transmitReady] at step_eq
  refine ⟨_, step_eq, { transmitted with fsm := rfl, count := ?_, tx := ?_, ready := ?_ }⟩
  · rw [BitVec.ofNat_add, ← transmitted.count]
    rfl
  · rw [List.replicate_succ', ← List.append_assoc, ← transmitted.tx, ← transmitted.command]
    rfl
  · exact (readyFor_sample transmitted.ready).2

/-- `CT_RX` with the echo (R160). -/
theorem step_echo (transmitted : Transmitted s cmd read sent .ctRx (k + 1) t) (received : s.rx = read ++ cmd :: rest) :
    ∃ u : State, step t = .next u ∧ Transmitted s cmd (read ++ [cmd]) sent .idle k u ∧ u.status = .ok ∧ u.done = true := by
  obtain ⟨step_eq, -⟩ := transmitted.step_eq_advance nofun
  obtain ⟨echoed, -, -⟩ := echoIsValidated t.sample cmd rest transmitted.fsm (transmitted.rx_of_received received)
  rw [echoed transmitted.command.symm] at step_eq
  exact ⟨_, step_eq, transmitted.after_read received .idle .ok true, rfl, rfl⟩

/-- `CT_RX` with another byte, the command sent `ECHO_MAX` times (R160). -/
theorem step_giveUp (transmitted : Transmitted s cmd read sent .ctRx (k + 1) t) (received : s.rx = read ++ b :: rest)
    (other : b ≠ cmd) (atBound : sent = s.params.echoMax.toNat) :
    ∃ u : State, step t = .next u ∧
      Transmitted s cmd (read ++ [b]) sent .idle k u ∧ u.status = .echoTimeout ∧ u.done = true := by
  obtain ⟨step_eq, -⟩ := transmitted.step_eq_advance nofun
  have isOther : b ≠ t.sample.cmdLat := fun echo => other (echo.trans transmitted.command)
  obtain ⟨-, gaveUp, -⟩ := echoIsValidated t.sample b rest transmitted.fsm (transmitted.rx_of_received received)
  rw [gaveUp isOther ((transmitted.count_eq_echoMax_iff atBound.le).mpr atBound)] at step_eq
  exact ⟨_, step_eq, transmitted.after_read received .idle .echoTimeout true, rfl, rfl⟩

/-- `CT_RX` with another byte, the command sent fewer times than that (R160). -/
theorem step_retry (transmitted : Transmitted s cmd read sent .ctRx (k + 1) t) (received : s.rx = read ++ b :: rest)
    (other : b ≠ cmd) (below : sent < s.params.echoMax.toNat) :
    ∃ u : State, step t = .next u ∧ Transmitted s cmd (read ++ [b]) sent .ctTx k u := by
  obtain ⟨step_eq, -⟩ := transmitted.step_eq_advance nofun
  have isOther : b ≠ t.sample.cmdLat := fun echo => other (echo.trans transmitted.command)
  obtain ⟨-, -, retried⟩ := echoIsValidated t.sample b rest transmitted.fsm (transmitted.rx_of_received received)
  rw [retried isOther (mt (transmitted.count_eq_echoMax_iff below.le).mp below.ne)] at step_eq
  exact ⟨_, step_eq, transmitted.after_read received .ctTx t.status false⟩

/-- The loop of SENDCMD, by the number of bytes: a first send, then for each mismatching echo below the bound its reading
and the next send (R158, R160). -/
theorem run_mismatches (starts : Transmitted s cmd [] 0 .ctTx (2 * read.length + 1 + k) t)
    (received : s.rx = read ++ rest) (others : ∀ b ∈ read, b ≠ cmd) (below : read.length < s.params.echoMax.toNat) :
    ∃ u : State, Host.Core.run Sys2Proof.core (2 * read.length + 1) t = .next u ∧
      Transmitted s cmd read (read.length + 1) .ctRx k u := by
  induction read using List.reverseRecOn generalizing rest k with
  | nil =>
    have starts : Transmitted s cmd [] 0 .ctTx (k + 1) t := by rwa [Nat.add_comm] at starts
    obtain ⟨u, sent, transmitted⟩ := starts.step_ctTx
    exact ⟨u, run_succ_of_step sent 0, transmitted⟩
  | append_singleton read b ih =>
    obtain ⟨others, other⟩ := List.forall_mem_append.mp others
    have receivedByte : s.rx = read ++ b :: rest := by rw [received, List.append_assoc, List.singleton_append]
    have steps : 2 * (read.length + 1) + 1 = 2 * read.length + 1 + 2 := by omega
    rw [List.length_append, List.length_singleton] at below starts ⊢
    rw [steps, Nat.add_assoc _ 2 k, Nat.add_comm 2 k] at starts
    obtain ⟨u, run, transmitted⟩ := ih starts receivedByte others (by omega)
    obtain ⟨v, retried, transmitted⟩ := transmitted.step_retry receivedByte (other b (List.mem_singleton_self b)) below
    obtain ⟨w, sent, transmitted⟩ := transmitted.step_ctTx
    rw [steps]
    exact ⟨w, (run_add run 2).trans ((run_succ_of_step retried 1).trans (run_succ_of_step sent 0)), transmitted⟩

end Steps

end Transmitted

/-- The accepting step of a SENDCMD under the obligations' schedule: its first input is sampled, and the others are
ready (R157). -/
theorem transmitted_of_sched {s : State} {start : Input} {polls later : List Input} {cmd : Byte} (idle : s.fsm = .idle)
    (readyStart : start.ready) (opStart : start.opStart = true) (request : decodeRequest start.req = .sendcmd cmd)
    (ready : ∀ i ∈ polls, i.ready) (sched : s.sched = start :: polls ++ later) :
    ∃ t : State, step s = .next t ∧ Transmitted s cmd [] 0 .ctTx polls.length t := by
  have sampled : s.sample.inp = start := State.sample_inp_of_sched sched
  have accepts := step_accepts_of_ready idle (sampled ▸ readyStart) (sampled ▸ opStart)
  have readyLater : readyFor polls.length s.sample.sched := by
    rw [State.sample_sched, sched]
    exact readyFor_append ready later
  rw [sampled, request] at accepts
  exact ⟨_, accepts, rfl, rfl, rfl, rfl, (List.append_nil s.tx).symm, rfl, readyLater⟩

/-- Settles O56: the loop over the bytes before the echo, then the echo. -/
theorem sendcmdEndsAtTheMatchingEcho : Obligations.SendcmdEndsAtTheMatchingEcho := by
  unfold Obligations.SendcmdEndsAtTheMatchingEcho
  intro s start polls later cmd wrong rest idle readyStart opStart request ready length sched received others within
  obtain ⟨t, accepted, starts⟩ := transmitted_of_sched idle readyStart opStart request ready sched
  have receivedEcho : s.rx = wrong ++ [cmd] ++ rest := by rw [received, List.append_assoc, List.singleton_append]
  have steps : polls.length = 2 * wrong.length + 1 + 1 := length
  rw [steps] at starts ⊢
  obtain ⟨u, run, transmitted⟩ := starts.run_mismatches received others within
  obtain ⟨v, echoed, ends, status, done⟩ := transmitted.step_echo received
  exact ⟨v, (run_succ_of_step accepted _).trans ((run_add run 1).trans (run_succ_of_step echoed 0)), status, done,
    ends.fsm, ends.count_toNat within, ends.tx, ends.rx_of_received receivedEcho⟩

/-- Settles O57: the loop over the bytes before the last, which is there since `ECHO_MAX` is not 0, then the last. -/
theorem sendcmdGivesUpAtTheBound : Obligations.SendcmdGivesUpAtTheBound := by
  unfold Obligations.SendcmdGivesUpAtTheBound
  intro s start polls later cmd wrong rest idle readyStart opStart request ready length sched received others atBound
    inRange
  obtain ⟨t, accepted, starts⟩ := transmitted_of_sched idle readyStart opStart request ready sched
  obtain rfl | ⟨before, last, rfl⟩ := List.eq_nil_or_concat' wrong
  · exact absurd atBound (toNat_zero_lt inRange).ne
  · obtain ⟨others, other⟩ := List.forall_mem_append.mp others
    have receivedLast : s.rx = before ++ last :: rest := by rw [received, List.append_assoc, List.singleton_append]
    rw [List.length_append, List.length_singleton] at atBound length ⊢
    have steps : polls.length = 2 * before.length + 1 + 1 := length
    rw [steps] at starts ⊢
    obtain ⟨u, run, transmitted⟩ := starts.run_mismatches receivedLast others (by omega)
    obtain ⟨v, gaveUp, ends, status, done⟩ :=
      transmitted.step_giveUp receivedLast (other last (List.mem_singleton_self last)) atBound
    have count : v.tries = s.params.echoMax :=
      ends.params ▸ (ends.count_eq_echoMax_iff atBound.le).mpr atBound
    exact ⟨v, (run_succ_of_step accepted _).trans ((run_add run 1).trans (run_succ_of_step gaveUp 0)), status, done,
      ends.fsm, count, ends.tx, ends.rx_of_received received⟩

end Sys2Proof.Machine

/-! ## The decode unit (spec 42_decode.md)

What DECODE writes (R171 to R178) and what each state of DECODEOS does (R180 to R184); then DECODEOS as a whole (R185).
The loop's invariant has two layers: `Tallied` relates the registers of the sum to the packets attempted, and `Sampled`
adds the sequencer, the streams and the schedule. -/

namespace Sys2Proof.Machine

/-! ### The decoded fields (R173, R178) -/

/-- The decoded channel is `b1[5:4]` under six zeros, which keeps it from the sentinel's (R173, R175). -/
theorem dec_channel_fields : ∀ b1 : Byte,
    ((b1 &&& 0x30) >>> 4).extractLsb' 0 2 = b1.extractLsb' 4 2 ∧ ((b1 &&& 0x30) >>> 4).extractLsb' 2 6 = 0 ∧
      (b1 &&& 0x30) >>> 4 ≠ 0xFF ∧ (b1 &&& 0x30) >>> 4 = (b1.extractLsb' 4 2).setWidth 8 := by
  decide

/-- The fields of the decoded value: bit 6 is the one that both data bytes reach (R173). -/
theorem dec_value_fields (b1 b2 : Byte) :
    ((packetInter b1 b2 &&& 0x07FE) >>> 1).extractLsb' 7 3 = b1.extractLsb' 1 3 ∧
    ((packetInter b1 b2 &&& 0x07FE) >>> 1).getLsbD 6 = (b1.getLsbD 0 || b2.getLsbD 7) ∧
    ((packetInter b1 b2 &&& 0x07FE) >>> 1).extractLsb' 0 6 = b2.extractLsb' 1 6 ∧
    ((packetInter b1 b2 &&& 0x07FE) >>> 1).extractLsb' 10 6 = 0 := by
  refine ⟨?_, dec_value_bit b1 b2 6, ?_, ?_⟩ <;> ext i <;> simp only [BitVec.getElem_extractLsb', dec_value_bit]
  · have beyond : b2.getLsbD (7 + i + 1) = false := BitVec.getLsbD_of_ge b2 _ (by omega)
    grind
  · grind
  · simp

/-- With `b2[7]` clear, as in every packet a device forms, the value is the two bytes' data bits in a row (R173). -/
theorem dec_value_eq_append {b2 : Byte} (b1 : Byte) (clear : b2.getLsbD 7 = false) :
    (packetInter b1 b2 &&& 0x07FE) >>> 1 = (0 : BitVec 6) ++ b1.extractLsb' 0 4 ++ b2.extractLsb' 1 6 := by
  apply BitVec.eq_of_getLsbD_eq
  intro i _
  simp only [dec_value_bit, BitVec.getLsbD_append, BitVec.getLsbD_extractLsb']
  grind

theorem resp1Byte_fields : ∀ (inch : BitVec 2) (d9_d6 : BitVec 4),
    (resp1Byte inch d9_d6).extractLsb' 4 2 = inch ∧ (resp1Byte inch d9_d6).extractLsb' 0 4 = d9_d6 := by
  decide

theorem resp2Byte_fields : ∀ d5_d0 : BitVec 6,
    (resp2Byte d5_d0).extractLsb' 1 6 = d5_d0 ∧ (resp2Byte d5_d0).getLsbD 7 = false := by
  decide

/-- The two halves in which a packet carries a reading make it up (R103). -/
theorem reading_halves (r : BitVec 10) :
    (0 : BitVec 6) ++ r.extractLsb' 6 4 ++ r.extractLsb' 0 6 = r.setWidth 16 := by
  apply BitVec.eq_of_getLsbD_eq
  intro i _
  simp only [BitVec.getLsbD_append, BitVec.getLsbD_extractLsb', BitVec.getLsbD_setWidth]
  grind

/-- A packet built from a channel and a reading decodes to them under its own command (R178). -/
theorem decPacket_packetOf (k : Byte) (c : BitVec 2) (r : BitVec 10) :
    decPacket (packetOf k c r) k = { channel := c.setWidth 8, value := r.setWidth 16, failed := false } := by
  obtain ⟨lane0, lane1, lane2⟩ := pkt_lanes k (resp1Byte c (r.extractLsb' 6 4)) (resp2Byte (r.extractLsb' 0 6))
  obtain ⟨inch, high⟩ := resp1Byte_fields c (r.extractLsb' 6 4)
  obtain ⟨low, clear⟩ := resp2Byte_fields (r.extractLsb' 0 6)
  obtain ⟨-, -, -, channel⟩ := dec_channel_fields (resp1Byte c (r.extractLsb' 6 4))
  rw [decPacket, packetOf, lane0, lane1, lane2, dec_match, channel, inch, dec_value_eq_append _ clear, high, low,
    reading_halves]

/-! ### DECODE -/

section Decode
variable {s : State} {k b0 b1 b2 : Byte}

/-- DECODE in `IDLE` completes with the reading of the packet on the port (R171). -/
theorem exec_decode_idle (cmd : Byte) (idle : s.fsm = .idle) :
    exec (.decode cmd) s = .next (s.setReading (decPacket s.inp.pkt cmd)).complete := present_idle idle _

/-- The decode of a packet laid out byte by byte is that of its bytes (R66). -/
theorem decPacket_of_lanes {p : Packet} (lanes : p = b0 ++ b1 ++ b2) : decPacket p k = dec b0 b1 b2 k := by
  obtain ⟨lane0, lane1, lane2⟩ := pkt_lanes b0 b1 b2
  rw [lanes, decPacket, lane0, lane1, lane2]

end Decode

/-- Settles O18: one branch of the decode for each branch of the statement. -/
theorem decodeWritesTheReading : Obligations.DecodeWritesTheReading := by
  unfold Obligations.DecodeWritesTheReading
  intro cmd s idle
  rw [exec_decode_idle cmd idle]
  split
  case isTrue echo =>
    subst echo
    rw [decPacket, pktB0, dec_match]
    rfl
  case isFalse mismatch =>
    have differs : pktB0 s.inp.pkt ≠ cmd := mismatch
    rw [decPacket, dec_mismatch _ _ differs]
    rfl

/-- Settles O19. -/
theorem decodeBitByBit : Obligations.DecodeBitByBit := by
  unfold Obligations.DecodeBitByBit
  intro b0 b1 b2 s idle lanes
  obtain ⟨channel, channelTop, -, -⟩ := dec_channel_fields b1
  obtain ⟨high, shared, low, valueTop⟩ := dec_value_fields b1 b2
  rw [exec_decode_idle b0 idle, decPacket_of_lanes lanes, dec_match]
  exact ⟨_, rfl, channel, channelTop, high, shared, low, valueTop, rfl, dec_value_eq_append b1⟩

/-- Settles O20. -/
theorem decodeRecoversEveryReading : Obligations.DecodeRecoversEveryReading := by
  unfold Obligations.DecodeRecoversEveryReading
  intro k c r s idle packet
  rw [exec_decode_idle k idle, packet, decPacket_packetOf]
  rfl

/-- Settles O21. -/
theorem echoMismatchYieldsTheSentinel : Obligations.EchoMismatchYieldsTheSentinel := by
  unfold Obligations.EchoMismatchYieldsTheSentinel
  intro k b0 b1 b2 s idle lanes
  rw [exec_decode_idle k idle, decPacket_of_lanes lanes]
  constructor
  · intro mismatch
    rw [dec_mismatch b1 b2 mismatch]
    rfl
  · rintro rfl
    obtain ⟨-, -, notSentinel, -⟩ := dec_channel_fields b1
    rw [dec_match]
    refine ⟨_, rfl, rfl, notSentinel, ?_⟩
    rintro rfl rfl
    rfl

/-! ### The rule each state of DECODEOS runs -/

section Rule
variable {s : State} {r : Reading}

theorem advance_osRun_of_absent (fsm : s.fsm = .osRun) (absent : s.inp.pktValid = false) :
    advance s = .next s.hold := by
  simp [advance, fsm, stepOsRun, absent]

theorem advance_osRun_of_present (fsm : s.fsm = .osRun) (present : s.inp.pktValid = true) :
    advance s = .next (osAttempt (decPacket s.inp.pkt s.cmdLat) s) := by
  simp only [advance, fsm, stepOsRun, present, if_true]

theorem advance_osFin (fsm : s.fsm = .osFin) :
    advance s = .next (s.setReading (meanReading s.acc s.succ s.lastCh)).complete := by
  simp only [advance, fsm, stepOsFin]

/-- What excludes a sample: its failure, or its value where `OS_EXCLUDE_BY_VALUE` is set (R182). -/
theorem counted_iff (p : Params) (r : Reading) :
    counted p r = true ↔ if p.osExcludeByValue then r.value ≠ 0x00FF else r.failed = false := by
  unfold counted
  split <;> simp

/-- An attempt whose sample counts (R181). -/
theorem osAttempt_of_counted (counts : counted s.params r = true) :
    osAttempt r s = { s with
      lastCh := r.channel, acc := s.acc + r.value.setWidth 18, succ := s.succ + 1, rem := s.rem - 1,
      fsm := if s.rem = 1 then .osFin else .osRun, done := false } := by
  simp only [osAttempt, counts, if_true, State.goto]

/-- An attempt whose sample does not count (R181). -/
theorem osAttempt_of_excluded (excluded : counted s.params r = false) :
    osAttempt r s = { s with
      lastCh := r.channel, rem := s.rem - 1, fsm := if s.rem = 1 then .osFin else .osRun, done := false } := by
  simp [osAttempt, excluded, State.goto]

end Rule

/-- Settles O22. -/
theorem decodeosIsAccepted : Obligations.DecodeosIsAccepted := by
  unfold Obligations.DecodeosIsAccepted
  exact fun cmd count _ idle => present_idle idle (acceptDecodeos cmd count)

/-- Settles O40. -/
theorem oversampleAttempt : Obligations.OversampleAttempt := by
  unfold Obligations.OversampleAttempt
  intro s fsm
  refine ⟨advance_osRun_of_absent fsm, fun present => ⟨_, rfl, fun counts => ?_, fun excluded => ?_⟩⟩ <;>
    rw [advance_osRun_of_present fsm present]
  · rw [osAttempt_of_counted ((counted_iff _ _).mpr counts)]
  · rw [osAttempt_of_excluded (Bool.eq_false_iff.mpr (mt (counted_iff _ _).mp excluded))]

section Mean
variable {acc : BitVec 18} {succ : BitVec 8}

theorem meanReading_of_none (none : succ = 0) (lastCh : Byte) : meanReading acc succ lastCh = failedReading :=
  if_pos none

/-- The mean of a bounded sum, its value as a number (R184). -/
theorem meanReading_of_some (some : succ ≠ 0) (sum : acc.toNat ≤ 1023 * succ.toNat) (lastCh : Byte) :
    meanReading acc succ lastCh =
      { channel := lastCh, value := BitVec.ofNat 16 (acc.toNat / succ.toNat), failed := false } := by
  obtain ⟨value, -⟩ := mean_bounds lastCh some sum
  rw [← value, BitVec.ofNat_toNat, BitVec.setWidth_eq, meanReading, if_neg some]

end Mean

/-- Settles O41. -/
theorem oversampleResult : Obligations.OversampleResult := by
  unfold Obligations.OversampleResult
  intro s fsm sum
  rw [advance_osFin fsm]
  refine ⟨fun none => ?_, fun some => ⟨?_, (mean_bounds s.lastCh some sum).2⟩⟩
  · rw [meanReading_of_none none]
    rfl
  · rw [meanReading_of_some some sum]
    rfl

/-! ### The counted readings (R182, R185) -/

section Readings
variable {p : Params} {cmd : Byte} {packets : List Packet} {q : Packet}

theorem countedReadings_concat_of_counted (counts : counted p (decPacket q cmd) = true) :
    countedReadings p cmd (packets ++ [q]) = countedReadings p cmd packets ++ [decPacket q cmd] := by
  simp [countedReadings, counts]

theorem countedReadings_concat_of_excluded (excluded : counted p (decPacket q cmd) = false) :
    countedReadings p cmd (packets ++ [q]) = countedReadings p cmd packets := by
  simp [countedReadings, excluded]

theorem sumValues_concat (readings : List Reading) (r : Reading) :
    sumValues (readings ++ [r]) = sumValues readings + r.value.toNat := by
  simp [sumValues]

/-- No more readings are counted than packets are presented. -/
theorem length_countedReadings_le (p : Params) (cmd : Byte) (packets : List Packet) :
    (countedReadings p cmd packets).length ≤ packets.length :=
  (List.length_filter_le ..).trans_eq (List.length_map _)

/-- The sum of the counted values is bounded by their number (R191). -/
theorem sumValues_countedReadings_le (p : Params) (cmd : Byte) (packets : List Packet) :
    sumValues (countedReadings p cmd packets) ≤ 1023 * (countedReadings p cmd packets).length := by
  have bounded : ∀ n ∈ (countedReadings p cmd packets).map (·.value.toNat), n ≤ 1023 := by
    intro n member
    obtain ⟨r, counts, rfl⟩ := List.mem_map.mp member
    obtain ⟨q, -, rfl⟩ := List.mem_map.mp (List.mem_filter.mp counts).1
    exact (decPacket_inRange q cmd).value
  simpa [sumValues, Nat.mul_comm] using List.sum_le_card_nsmul _ 1023 bounded

end Readings

/-! ### The registers of the sum -/

/-- The registers of DECODEOS after attempts on the packets. The sum and the count hold modulo their widths, so that an
attempt adds to them without a bound; `Tallied.toNat_eq` says where they are exact. -/
structure Tallied (cmd : Byte) (packets : List Packet) (t : State) : Prop where
  command : t.cmdLat = cmd
  sum : t.acc = BitVec.ofNat 18 (sumValues (countedReadings t.params cmd packets))
  count : t.succ = BitVec.ofNat 8 (countedReadings t.params cmd packets).length
  channel : t.lastCh = (packets.getLast?.map fun q => (decPacket q cmd).channel).getD 0xFF

namespace Tallied

section Registers
variable {cmd : Byte} {packets : List Packet} {t : State}

theorem of_accepted (cmd count : Byte) (s : State) : Tallied cmd [] (acceptDecodeos cmd count s) := ⟨rfl, rfl, rfl, rfl⟩

/-- Sampling the ports leaves the registers as they are. -/
theorem seen (tallied : Tallied cmd packets t) : Tallied cmd packets t.seen :=
  ⟨tallied.command, tallied.sum, tallied.count, tallied.channel⟩

/-- So does a step that completes nothing. -/
theorem hold (tallied : Tallied cmd packets t) : Tallied cmd packets t.hold :=
  ⟨tallied.command, tallied.sum, tallied.count, tallied.channel⟩

/-- An attempt takes one more packet, counted or not (R181). -/
theorem attempt (tallied : Tallied cmd packets t) (q : Packet) :
    Tallied cmd (packets ++ [q]) (osAttempt (decPacket q cmd) t) := by
  have last : (decPacket q cmd).channel =
      ((packets ++ [q]).getLast?.map fun q => (decPacket q cmd).channel).getD 0xFF := by simp
  cases counts : counted t.params (decPacket q cmd) with
  | true =>
    rw [osAttempt_of_counted counts]
    refine ⟨tallied.command, ?_, ?_, last⟩ <;> dsimp only <;> rw [countedReadings_concat_of_counted counts]
    · rw [sumValues_concat, BitVec.ofNat_add, ← tallied.sum, BitVec.ofNat_toNat]
    · rw [List.length_append, List.length_singleton, BitVec.ofNat_add, ← tallied.count]
      rfl
  | false =>
    rw [osAttempt_of_excluded counts]
    refine ⟨tallied.command, ?_, ?_, last⟩ <;> dsimp only <;> rw [countedReadings_concat_of_excluded counts]
    · exact tallied.sum
    · exact tallied.count

/-- Neither the count nor the sum wraps where the packets are as many as a DECODEOS can ask for (R29, R30, R191). -/
theorem toNat_eq (tallied : Tallied cmd packets t) (few : packets.length ≤ 255) :
    t.succ.toNat = (countedReadings t.params cmd packets).length ∧
      t.acc.toNat = sumValues (countedReadings t.params cmd packets) := by
  have number := length_countedReadings_le t.params cmd packets
  have bounded := sumValues_countedReadings_le t.params cmd packets
  rw [tallied.count, tallied.sum, BitVec.toNat_ofNat, BitVec.toNat_ofNat, Nat.mod_eq_of_lt (by omega),
    Nat.mod_eq_of_lt (by omega)]
  exact ⟨rfl, rfl⟩

/-- With no counted reading the result is the sentinel (R184). -/
theorem mean_of_none (tallied : Tallied cmd packets t) (none : countedReadings t.params cmd packets = []) :
    meanReading t.acc t.succ t.lastCh = failedReading :=
  meanReading_of_none (by rw [tallied.count, none]; rfl) t.lastCh

/-- The channel of the last packet is the latched one. -/
theorem getLast_channel (tallied : Tallied cmd packets t) (attempted : packets ≠ []) :
    packets.getLast?.map (fun q => (decPacket q cmd).channel) = some t.lastCh := by
  rw [tallied.channel, List.getLast?_eq_some_getLast attempted]
  rfl

/-- With a counted reading the result is their truncated mean, with the channel of the last packet (R184, R185). -/
theorem mean_of_some (tallied : Tallied cmd packets t) (few : packets.length ≤ 255)
    (counted : countedReadings t.params cmd packets ≠ []) :
    (meanReading t.acc t.succ t.lastCh).value.toNat =
        sumValues (countedReadings t.params cmd packets) / (countedReadings t.params cmd packets).length ∧
      (meanReading t.acc t.succ t.lastCh).failed = false ∧
      packets.getLast?.map (fun q => (decPacket q cmd).channel) = some (meanReading t.acc t.succ t.lastCh).channel := by
  obtain ⟨count, sum⟩ := tallied.toNat_eq few
  have notZero : t.succ ≠ 0 := by
    rintro zero
    rw [zero] at count
    exact counted (List.eq_nil_of_length_eq_zero count.symm)
  have bounded : t.acc.toNat ≤ 1023 * t.succ.toNat := by
    rw [count, sum]
    exact sumValues_countedReadings_le t.params cmd packets
  have attempted : packets ≠ [] := by
    rintro rfl
    exact counted rfl
  obtain ⟨value, -⟩ := mean_bounds t.lastCh notZero bounded
  refine ⟨by rw [value, count, sum], ?_, ?_⟩ <;> rw [meanReading_of_some notZero bounded]
  exact tallied.getLast_channel attempted

end Registers

end Tallied

/-! ### DECODEOS as a whole (R185) -/

/-- The packets presented in the steps with these inputs (R181). -/
def presented (ports : List Input) : List Packet := (ports.filter (·.pktValid)).map (·.pkt)

section Presented
variable {ports : List Input} {i : Input}

theorem presented_concat_of_valid (valid : i.pktValid = true) :
    presented (ports ++ [i]) = presented ports ++ [i.pkt] := by
  simp [presented, valid]

theorem presented_concat_of_absent (absent : i.pktValid = false) : presented (ports ++ [i]) = presented ports := by
  simp [presented, absent]

/-- A further step presents no fewer packets. -/
theorem length_presented_le_concat (ports : List Input) (i : Input) :
    (presented ports).length ≤ (presented (ports ++ [i])).length := by
  simp [presented]

end Presented

/-- The other agents' accesses in one list of steps and then in another. -/
theorem streamsWithoutCore_append (ports more : List Input) (streams : List Byte × List Byte) :
    streamsWithoutCore (ports ++ more) streams = streamsWithoutCore more (streamsWithoutCore ports streams) := by
  induction ports generalizing streams with
  | nil => rfl
  | cons i rest ih => exact ih _

/-- What the rules of a step see of the streams is what the other agents made of them in it (log 10). -/
theorem seen_streams {t : State} {i : Input} {rest : List Input} (sched : t.sched = i :: rest) :
    (t.seen.rx, t.seen.tx) = streamsWithoutCore [i] (t.rx, t.tx) := by
  simp [State.seen, streamsWithoutCore, State.sample_inp_of_sched sched]

/-- An idle step with a start accepts the request, whatever the other agents do to the streams (R92, R250 (b)). -/
theorem step_accepts {s : State} (accepts : s.Accepts) : step s = .next (acceptEffect s.request s.seen) := by
  obtain ⟨noReset, idle, start⟩ := accepts
  rw [step_of_request noReset (State.hostIntrudes_of_idle (s := s.sample) idle) start, present_idle (s := s.seen) idle]

/-- The loop's invariant: where a DECODEOS of `count` packets, presented in `s` with the input `start`, stands after the
steps with the inputs `ports`, in `t`. -/
structure Sampled (s : State) (start : Input) (cmd count : Byte) (ports : List Input) (t : State) : Prop where
  run : Host.Core.run Sys2Proof.core (ports.length + 1) s = .next t
  fsm : t.fsm = if t.rem = 0 then .osFin else .osRun
  left : (presented ports).length + t.rem.toNat = count.toNat
  tallied : Tallied cmd (presented ports) t
  params : t.params = s.params
  streams : (t.rx, t.tx) = streamsWithoutCore (start :: ports) (s.rx, s.tx)
  sched : s.sched = start :: ports ++ t.sched

namespace Sampled

section Steps
variable {s t : State} {start i last : Input} {cmd count : Byte} {ports rest : List Input}

theorem sched_eq (sampled : Sampled s start cmd count ports t) (sched : s.sched = start :: ports ++ rest) :
    t.sched = rest := List.append_cancel_left (sampled.sched.symm.trans sched)

/-- The accepting step (R180). -/
theorem of_accepted (idle : s.fsm = .idle) (noReset : start.rst = false) (opStart : start.opStart = true)
    (request : decodeRequest start.req = .decodeos cmd count) (sched : s.sched = start :: rest) :
    ∃ t : State, Sampled s start cmd count [] t := by
  have sampled : s.seen.inp = start := State.sample_inp_of_sched sched
  have accepted := step_accepts ⟨by rwa [sampled], idle, by rwa [sampled]⟩
  rw [State.request, sampled, request] at accepted
  refine ⟨acceptDecodeos cmd count s.seen, run_succ_of_step accepted 0, rfl, Nat.zero_add _,
    .of_accepted cmd count s.seen, rfl, seen_streams sched, ?_⟩
  change s.sched = start :: s.sched.tail
  rw [sched, List.tail_cons]

/-- A step of a DECODEOS in flight is the sequencer's: the operation port is lost on it, and the host may use the
transport (R92, R250 (b)). -/
theorem step_eq_advance (sampled : Sampled s start cmd count ports t) (sched : s.sched = start :: ports ++ i :: rest)
    (noReset : i.rst = false) : step t = advance t.seen ∧ t.seen.inp = i := by
  have port : t.seen.inp = i := State.sample_inp_of_sched (sampled.sched_eq sched)
  obtain ⟨noHandshake, noCommand⟩ := osNext_outside (t.rem = 0)
  rw [← sampled.fsm] at noHandshake noCommand
  have noIntrusion : t.sample.hostIntrudes = false := by simp [State.hostIntrudes, noHandshake, noCommand]
  have busy : t.fsm ≠ .idle := by
    rw [sampled.fsm]
    split <;> nofun
  exact ⟨stepWithoutAcceptanceIsTheSequencers t (by rwa [port]) noIntrusion (.inr busy), port⟩

/-- The streams and the schedule after one more step in which the core touches neither. -/
theorem after_step (sampled : Sampled s start cmd count ports t) (sched : s.sched = start :: ports ++ i :: rest) :
    (t.seen.rx, t.seen.tx) = streamsWithoutCore (start :: (ports ++ [i])) (s.rx, s.tx) ∧
      s.sched = start :: (ports ++ [i]) ++ t.seen.sched := by
  have next : t.sched = i :: rest := sampled.sched_eq sched
  constructor
  · rw [seen_streams next, sampled.streams, ← streamsWithoutCore_append, List.cons_append]
  · change s.sched = start :: (ports ++ [i]) ++ t.sched.tail
    rw [sched, next]
    simp

/-- `OS_RUN`: one more step while packets are awaited, with a packet or without (R181, R183). -/
theorem step_osRun (sampled : Sampled s start cmd count ports t) (awaited : (presented ports).length < count.toNat)
    (sched : s.sched = start :: ports ++ i :: rest) (noReset : i.rst = false) :
    ∃ u : State, Sampled s start cmd count (ports ++ [i]) u := by
  have left := sampled.left
  have more : t.rem ≠ 0 := by bv_omega
  have running : t.seen.fsm = .osRun := by
    rw [seen_fsm, sampled.fsm, if_neg more]
  obtain ⟨step_eq, port⟩ := sampled.step_eq_advance sched noReset
  obtain ⟨streams, schedule⟩ := sampled.after_step sched
  have run : ∀ u, step t = .next u →
      Host.Core.run Sys2Proof.core ((ports ++ [i]).length + 1) s = .next u := by
    intro u next
    rw [List.length_append, List.length_singleton]
    exact (run_add sampled.run 1).trans (run_succ_of_step next 0)
  cases valid : i.pktValid with
  | false =>
    have same : presented (ports ++ [i]) = presented ports := presented_concat_of_absent valid
    rw [advance_osRun_of_absent running (port ▸ valid)] at step_eq
    exact ⟨_, run _ step_eq, sampled.fsm, same ▸ left, same ▸ sampled.tallied.seen.hold, sampled.params, streams,
      schedule⟩
  | true =>
    have next : presented (ports ++ [i]) = presented ports ++ [i.pkt] := presented_concat_of_valid valid
    rw [advance_osRun_of_present running (port ▸ valid), port, sampled.tallied.seen.command] at step_eq
    refine ⟨_, run _ step_eq, ?_, ?_, next ▸ sampled.tallied.seen.attempt i.pkt, sampled.params, streams, schedule⟩
    · rw [osAttempt_fsm, osAttempt_rem]
      have last_iff : t.seen.rem = 1 ↔ t.seen.rem - 1 = 0 := by bv_omega
      simp only [last_iff]
    · rw [next, osAttempt_rem, List.length_append, List.length_singleton]
      change _ + (t.rem - 1).toNat = _
      bv_omega

/-- `OS_RUN` throughout: while packets are awaited the core is in the loop, by the number of steps. -/
theorem run_awaited (accepted : ∃ t : State, Sampled s start cmd count [] t)
    (awaited : (presented ports).length < count.toNat) (noReset : ∀ i ∈ ports, i.rst = false)
    (sched : s.sched = start :: ports ++ rest) : ∃ t : State, Sampled s start cmd count ports t := by
  induction ports using List.reverseRecOn generalizing rest with
  | nil => exact accepted
  | append_singleton ports i ih =>
    obtain ⟨noReset, noResetLast⟩ := List.forall_mem_append.mp noReset
    have schedLast : s.sched = start :: ports ++ i :: rest := by simp [sched]
    have awaitedBefore := (length_presented_le_concat ports i).trans_lt awaited
    obtain ⟨t, sampled⟩ := ih awaitedBefore noReset schedLast
    exact sampled.step_osRun awaitedBefore schedLast (noResetLast i (List.mem_singleton_self i))

/-- The attempts as a whole: the last of the steps presents the last of the packets. -/
theorem run_attempts (accepted : ∃ t : State, Sampled s start cmd count [] t)
    (all : (presented ports).length = count.toNat) (ends : ∀ i, ports.getLast? = some i → i.pktValid = true)
    (noReset : ∀ i ∈ ports, i.rst = false) (sched : s.sched = start :: ports ++ rest) :
    ∃ t : State, Sampled s start cmd count ports t := by
  obtain rfl | ⟨before, i, rfl⟩ := List.eq_nil_or_concat' ports
  · exact accepted
  · obtain ⟨noReset, noResetLast⟩ := List.forall_mem_append.mp noReset
    have schedLast : s.sched = start :: before ++ i :: rest := by simp [sched]
    have awaited : (presented before).length < count.toNat := by
      rw [presented_concat_of_valid (ends i List.getLast?_concat), List.length_append, List.length_singleton] at all
      omega
    obtain ⟨t, sampled⟩ := run_awaited accepted awaited noReset schedLast
    exact sampled.step_osRun awaited schedLast (noResetLast i (List.mem_singleton_self i))

/-- `OS_FIN`: the step after the last attempt forms the result (R184). -/
theorem step_osFin (sampled : Sampled s start cmd count ports t) (all : (presented ports).length = count.toNat)
    (sched : s.sched = start :: ports ++ i :: rest) (noReset : i.rst = false) :
    Host.Core.run Sys2Proof.core (ports.length + 2) s =
      .next (t.seen.setReading (meanReading t.acc t.succ t.lastCh)).complete := by
  have left := sampled.left
  have none : t.rem = 0 := by bv_omega
  have finishing : t.seen.fsm = .osFin := by
    rw [seen_fsm, sampled.fsm, if_pos none]
  obtain ⟨step_eq, -⟩ := sampled.step_eq_advance sched noReset
  exact (run_add sampled.run 1).trans (run_succ_of_step (step_eq.trans (advance_osFin finishing)) 0)

end Steps

end Sampled

/-- Settles O60: the accepting step, the attempts, and the step that forms the mean of what they tallied. -/
theorem oversampleIsTheTruncatedMean : Obligations.OversampleIsTheTruncatedMean := by
  unfold Obligations.OversampleIsTheTruncatedMean
  intro s start last ports later cmd count idle noResetStart opStart request noReset noResetLast sched number ends
  have all : (presented ports).length = count.toNat := (List.length_map _).trans number
  have accepted := Sampled.of_accepted idle noResetStart opStart request sched
  obtain ⟨t, sampled⟩ := Sampled.run_attempts accepted all ends noReset sched
  have run := sampled.step_osFin all sched noResetLast
  obtain ⟨streams, -⟩ := sampled.after_step sched
  have few : (presented ports).length ≤ 255 := by
    have width := count.isLt
    omega
  refine ⟨_, presented ports, _, rfl, rfl, run, rfl, rfl, rfl, streams, ?_⟩
  rw [← sampled.params]
  refine ⟨fun none => ?_, sampled.tallied.mean_of_some few⟩
  rw [sampled.tallied.mean_of_none none]
  exact ⟨rfl, rfl, rfl⟩

end Sys2Proof.Machine

/-! ## The word reversal (spec 43_revbits.md)

What REVBITS writes (R201). That a second REVBITS undoes the first (R202) follows from what it does to each bit, since
`15 - (15 - i)` is `i` on the sixteen positions of the word. -/

namespace Sys2Proof.Machine

/-- Reversing is its own inverse (R202). -/
@[simp] theorem revHalf_revHalf (w : Half) : revHalf (revHalf w) = w := by
  apply BitVec.eq_of_getLsbD_eq
  intro i inWord
  have mirrorInWord : 15 - i < 16 := by omega
  have mirrorOfMirror : 15 - (15 - i) = i := by omega
  rw [revHalf_bit _ inWord, revHalf_bit _ mirrorInWord, mirrorOfMirror]

/-- REVBITS in `IDLE` completes with the reversal of its operand (R201). -/
theorem exec_revbits_idle {s : State} (arg : Half) (idle : s.fsm = .idle) :
    exec (.revbits arg) s = .next { s with resWord := revHalf arg }.complete := present_idle idle _

/-- Settles O23. -/
theorem revbitsMirrorsTheWord : Obligations.RevbitsMirrorsTheWord := by
  unfold Obligations.RevbitsMirrorsTheWord
  exact fun arg s idle => ⟨revHalf arg, exec_revbits_idle arg idle, fun _ inWord => revHalf_bit arg inWord⟩

/-- Settles O24: the first REVBITS completes in `IDLE`, so the second is accepted, with the reversed word as operand. -/
theorem revbitsTwiceIsTheWord : Obligations.RevbitsTwiceIsTheWord := by
  unfold Obligations.RevbitsTwiceIsTheWord
  intro arg s t idle first
  rw [exec_revbits_idle arg idle] at first
  obtain rfl := Host.Outcome.next.inj first
  exact ⟨_, exec_revbits_idle (revHalf arg) (State.complete_fsm _), revHalf_revHalf arg⟩

end Sys2Proof.Machine

/-! ## The exceptions (spec 60_exceptions.md)

The status each completing step leaves (R210, R218): a reserved operation code in the accepting step, and in the
sequencer the timeout of the family whose state gives up. -/

namespace Sys2Proof.Machine

section Errors
variable {s t : State}

/-- A starved wait is one of AUTOBAUD's, whose timeout is `HS_TIMEOUT`, or one of SENDCMD's, whose timeout is
`ECHO_TIMEOUT` (R70, R210). -/
theorem State.Starved.family (starved : s.Starved) :
    (fsmInHandshake s.fsm = true ∧ fsmTimeout s.fsm = .hsTimeout) ∨
      (fsmInCommand s.fsm = true ∧ fsmTimeout s.fsm = .echoTimeout) := by
  cases fsm : s.fsm with
  | hsTx0 | hsRx | hsTxm | hsTxa => exact .inl ⟨rfl, rfl⟩
  | ctTx | ctRx => exact .inr ⟨rfl, rfl⟩
  | _ => simp [State.Starved, fsm, fsmTransmits, fsmReceives] at starved

/-- A rule that completes an operation ends it with `OK` or with the timeout of its own family (R210). -/
theorem SequencerRule.status_of_done (rule : SequencerRule s t) (done : t.done = true) :
    t.status = .ok ∨ (fsmInHandshake s.fsm = true ∧ t.status = .hsTimeout) ∨
      (fsmInCommand s.fsm = true ∧ t.status = .echoTimeout) := by
  cases rule with
  | waitEnded starved => exact .inr starved.family
  | hsTxaGaveUp fsm => exact .inr (.inl ⟨by rw [fsm]; rfl, rfl⟩)
  | ctRxGaveUp fsm => exact .inr (.inr ⟨by rw [fsm]; rfl, rfl⟩)
  | hsRxFinished | hsTxaSucceeded | ctRxMatched | osFinished => exact .inl rfl
  | _ => cases done

/-- A request that completes as it is accepted ends with `ILLEGAL_OP` for a reserved operation code, else with `OK`
(R93, R95). -/
theorem acceptEffect_status_of_completesAtOnce {i : Instr} (atOnce : i.completesAtOnce = true) :
    (acceptEffect i s).status = if i = .reserved6 ∨ i = .reserved7 then .illegalOp else .ok := by
  cases i with
  | pack | decode | revbits | reserved6 | reserved7 => simp [acceptEffect, acceptPack, acceptDecode, acceptRevbits]
  | _ => cases atOnce

theorem mem_of_fsmInHandshake {f : Fsm} (within : fsmInHandshake f = true) :
    f ∈ [Fsm.hsTx0, .hsRx, .hsTxm, .hsTxa] := by
  simpa [fsmInHandshake, or_assoc] using within

theorem mem_of_fsmInCommand {f : Fsm} (within : fsmInCommand f = true) : f ∈ [Fsm.ctTx, .ctRx] := by
  simpa [fsmInCommand] using within

end Errors

/-- Settles O44: an accepting step raises no timeout, and a rule of the sequencer no `ILLEGAL_OP` and only the timeout
of the family it belongs to. -/
theorem errorsStayInTheirFamily : Obligations.ErrorsStayInTheirFamily := by
  unfold Obligations.ErrorsStayInTheirFamily
  intro s t next noReset done
  obtain ⟨accepts, rfl⟩ | ⟨notAccepts, rule⟩ := step_next_of_no_reset next noReset
  · have atOnce : s.request.completesAtOnce = true :=
      (acceptEffect_done s.seen (decodeRequest_format s.seen.inp.req)).symm.trans done
    rw [acceptEffect_status_of_completesAtOnce atOnce]
    by_cases reserved : s.request = .reserved6 ∨ s.request = .reserved7 <;> simp [reserved, accepts]
  · obtain ok | ⟨handshake, timeout⟩ | ⟨command, timeout⟩ := rule.status_of_done done
    · simp [ok, notAccepts]
    · exact ⟨fun _ => mem_of_fsmInHandshake handshake, by simp [timeout], by simp [timeout, notAccepts]⟩
    · exact ⟨by simp [timeout], fun _ => mem_of_fsmInCommand command, by simp [timeout, notAccepts]⟩

end Sys2Proof.Machine

/-! ## The refused step (spec 70_reset_and_hazards.md R250 (b), U13)

When the host's own access to the transport meets an operation in flight, in the words of the ports and of `fsm`; then
that no other branch of the step refuses. -/

namespace Sys2Proof.Machine

/-- The host acts on the streams by taking bytes of `RX` or by sending its own (R77). -/
theorem Input.hostActive_iff (i : Input) : i.hostActive = true ↔ i.hostTakes ≠ 0 ∨ i.hostSends ≠ [] := by
  simp [Input.hostActive]

/-- The states in which the host must leave the transport alone are AUTOBAUD's and SENDCMD's (R250 (b)). -/
theorem fsmInHandshake_or_fsmInCommand_iff (f : Fsm) :
    (fsmInHandshake f || fsmInCommand f) = true ↔ f ∈ [Fsm.hsTx0, .hsRx, .hsTxm, .hsTxa, .ctTx, .ctRx] := by
  simp [fsmInHandshake, fsmInCommand, or_assoc]

theorem State.hostIntrudes_iff (s : State) :
    s.hostIntrudes = true ↔
      s.fsm ∈ [Fsm.hsTx0, .hsRx, .hsTxm, .hsTxa, .ctTx, .ctRx] ∧ (s.inp.hostTakes ≠ 0 ∨ s.inp.hostSends ≠ []) := by
  rw [State.hostIntrudes, Bool.and_eq_true, fsmInHandshake_or_fsmInCommand_iff, Input.hostActive_iff]

/-- A presented request is accepted or lost, never refused (R92). -/
theorem present_ne_refused (effect : State → State) (s : State) (r : Refusal) : present effect s ≠ .refused r := by
  by_cases idle : s.fsm = .idle
  · simp [present_idle idle]
  · rw [present_busy idle]
    exact advance_ne_refused s r

/-- The step's refusing branch comes after the reset, and neither an accepting step nor the sequencer refuses. -/
theorem step_refused_iff (s : State) (r : Refusal) :
    step s = .refused r ↔
      s.sample.inp.rst = false ∧ s.sample.hostIntrudes = true ∧ r = .hostTransportInFlight := by
  rw [step_eq, seen_inp]
  cases s.sample.inp.rst with
  | true => simp
  | false =>
    cases s.sample.hostIntrudes with
    | true => simp [eq_comm]
    | false =>
      cases s.sample.inp.opStart with
      | true => simp [present_ne_refused]
      | false => simp [advance_ne_refused]

/-- Settles O12: sampling leaves `fsm` as it is, so the intrusion is the one on the state the step begins in. -/
theorem onlyHostIntrusionIsRefused : Obligations.OnlyHostIntrusionIsRefused := by
  unfold Obligations.OnlyHostIntrusionIsRefused
  intro s
  simp only [step_refused_iff, State.hostIntrudes_iff, State.sample_fsm, exists_and_left, exists_eq, and_true]

end Sys2Proof.Machine

/-! ## The words written out in the spec (30_encoding.md R108, 95_test_vectors.md)

A word in the encoder's form falls to the round trip; one with other bits in the fields its operation does not read falls
to R94, with those fields written out. -/

namespace Sys2Proof.Machine

section TableWords
variable {nbits w : Nat} {x : Wire} {i : Instr}

theorem decodeTableWord_of_decode (wire : tableWire nbits w = some x) (reads : decode x = .ok i) :
    decodeTableWord nbits w = some i := by
  simp only [decodeTableWord, wire, reads]

/-- A number that is the word of a well-formed instruction decodes to it. -/
theorem decodeTableWord_of_encode (wf : i.wf = true) (wire : tableWire nbits w = some (encode i)) :
    decodeTableWord nbits w = some i :=
  decodeTableWord_of_decode wire (decodeOfEncodeIsTheInstruction i wf)

/-- A number of 32 bits is read as a request word. -/
theorem decodeTableWord_of_decodeRequest {word : ReqWord} (value : BitVec.ofNat 32 w = word)
    (reads : decodeRequest word = i) : decodeTableWord 32 w = some i :=
  decodeTableWord_of_decode (congrArg (some ∘ Wire.request) value) (congrArg Except.ok reads)

end TableWords

/-- Vector P10: `PACK` ignores `req[23:0]`. -/
theorem decodeTableWord_pack_unread_ones :
    decodeTableWord 32 0x35FFFFFF = some (.pack .one .single .external 2) := by
  obtain ⟨-, pack, -⟩ := decodeRequest_requestWord 2 .external .single .one 0xFF 0 0 0xFFFF
  exact decodeTableWord_of_decodeRequest (by decide) pack

/-- Vector SC1's note: `SENDCMD` ignores `req[28:8]`. -/
theorem decodeTableWord_sendcmd_unread_ones : decodeTableWord 32 0x5FFFFFD1 = some (.sendcmd 0xD1) := by
  obtain ⟨-, -, sendcmd, -⟩ := decodeRequest_requestWord 3 .external .stream .one 0xFF 0xFF 0xD1 0
  exact decodeTableWord_of_decodeRequest (by decide) sendcmd

/-- Vector V10's note: `REVBITS` ignores `req[28:16]`. -/
theorem decodeTableWord_revbits_unread_ones : decodeTableWord 32 0xBFFF9A6A = some (.revbits 0x9A6A) := by
  obtain ⟨-, -, -, -, -, revbits, -⟩ := decodeRequest_requestWord 3 .external .stream .one 0xFF 0 0 0x9A6A
  exact decodeTableWord_of_decodeRequest (by decide) revbits

/-- Settles O6: eight of the words are what the encoder writes, three have ones in the fields that are not read. -/
theorem specWordsDecode : Obligations.SpecWordsDecode := by
  unfold Obligations.SpecWordsDecode
  refine ⟨?autobaud, decodeTableWord_pack_unread_ones, ?pack, decodeTableWord_sendcmd_unread_ones, ?decode, ?decodeos,
    decodeTableWord_revbits_unread_ones, ?cmd, ?resp1, ?resp2, ?conf⟩
  case autobaud | pack | decode | decodeos | cmd | resp1 | resp2 | conf =>
    exact decodeTableWord_of_encode (by decide) (by decide)

end Sys2Proof.Machine
